-- ==== Sys2Proof/Word.lean ====
section
/-! DEFINITION. The machine's two word sizes (spec/00_scope.md R7): registers and memory cells are 8 bits,
SP, PC and every address are 16 bits. -/

namespace Sys2Proof

/-- A register or a memory cell (R7). -/
abbrev Byte := BitVec 8

/-- SP, PC, a register pair or an address (R7). -/
abbrev Word := BitVec 16

end Sys2Proof
end

