-- ==== Sys2Proof/Config.lean ====
section
/-! DEFINITION. What is fixed for a run or free: the kinds of bank controller (spec/00_scope.md R8,
spec/20_memory.md R131), a button set (R8, spec/10_state.md R53), and the one free input of the machine, the
button set the host supplies for each presented frame (R6, R8 `buttons(k)`). -/

namespace Sys2Proof

/-- The bank controller of the cartridge, `mbc_kind` of R8. -/
inductive MbcKind where
  | noMbc
  | mbc1
  deriving DecidableEq, Repr

/-- A set of pressed buttons over the eight buttons of R53: a field is true when its button is pressed. -/
structure Buttons where
  right  : Bool
  left   : Bool
  up     : Bool
  down   : Bool
  a      : Bool
  b      : Bool
  select : Bool
  start  : Bool
  deriving DecidableEq, Repr, Inhabited

/-- The button set the host supplies at the k-th presented frame, where none is queued in the state: a FREE VALUE
(R6 "a free input the model must quantify over"; U9 of spec/93_implementation_defined.md). It has no body, so no
proof can see its value. Log entry 1. -/
opaque Config.hostButtons : Nat → Buttons

end Sys2Proof
end

