-- ==== Sys2Proof/Machine/State.lean ====
section
/-! DEFINITION. The machine's state: every piece spec/10_state.md names (R20 to R54), the cartridge (spec/00_scope.md R8),
and what the host puts in (spec/60_exceptions.md R490, R491). Plain data throughout. Also the reasons a step can stop
and the state after reset. -/

namespace Sys2Proof.Machine

/-- An array of bytes (R51), by offset: strictly rising offsets, no entry equal to what an unlisted offset reads as
(`Memory.wf` in Machine/Memory.lean). -/
abbrev Memory := List Host.Cell

/-- The three latch states of R30. -/
inductive RunState where
  | running
  | halted
  | stopped
  deriving DecidableEq, Repr

/-- The CPU's registers (R20) and control state (R29 to R31). -/
structure Cpu where
  a : Byte
  /-- Z, N, H, C in bits 7 to 4, bits 3 to 0 always zero (R22). -/
  f : Byte
  b : Byte
  c : Byte
  d : Byte
  e : Byte
  h : Byte
  l : Byte
  sp : Word
  pc : Word
  ime : Bool
  imePending : Bool
  run : RunState
  deriving DecidableEq, Repr

/-- The timer (R34 to R37, R50). -/
structure Timer where
  divider : BitVec 16
  tacc : Nat
  tima : Byte
  tma : Byte
  tac : Byte
  deriving DecidableEq, Repr

/-- The PPU modes, numbered 0 to 3 in STAT bits 1 to 0 (R41, R52). -/
inductive PpuMode where
  | hblank
  | vblank
  | oamScan
  | drawing
  deriving DecidableEq, Repr

/-- The PPU's registers (R40 to R47) and inner state (R52). -/
structure Ppu where
  lcdc : Byte
  /-- STAT bits 7 to 3 (R41). -/
  statHi : BitVec 5
  scy : Byte
  scx : Byte
  ly : Byte
  lyc : Byte
  bgp : Byte
  obp0 : Byte
  obp1 : Byte
  wy : Byte
  wx : Byte
  mode : PpuMode
  dot : Nat
  coincidence : Bool
  winLine : Byte
  /-- 144 rows of 160 shades. -/
  fb : List (List (BitVec 2))
  frameReady : Bool
  deriving DecidableEq, Repr

/-- MBC1's control state (R49). -/
structure Mbc where
  ramEnable : Bool
  bankLo : BitVec 5
  bankHi : BitVec 2
  mode : Bool
  deriving DecidableEq, Repr

/-- The joypad (R33, R53): the select bits 5 and 4 of P1, and the pressed buttons. -/
structure Joypad where
  sel5 : Bool
  sel4 : Bool
  pressed : Buttons
  deriving DecidableEq, Repr

/-- The cartridge in the slot (spec/00_scope.md R8): the image, its length, and the parameters its header gives. A step
never changes it. -/
structure Cart where
  rom : Memory
  romSize : Nat
  kind : MbcKind
  romBanks : Nat
  ramBytes : Nat
  deriving DecidableEq, Repr

/-- The machine's fault record (R32). -/
structure UnknownOpcode where
  pc : Word
  byte : Byte
  deriving DecidableEq, Repr

/-- The whole machine. -/
structure State where
  cpu : Cpu
  timer : Timer
  ppu : Ppu
  joy : Joypad
  /-- IF, 0xFF0F (R38). -/
  ifReg : Byte
  /-- IE, 0xFFFF (R39). -/
  ieReg : Byte
  /-- DMA, 0xFF46 (R45). -/
  dma : Byte
  mbc : Mbc
  cart : Cart
  vram : Memory
  extRam : Memory
  wram : Memory
  oam : Memory
  /-- The I/O bytes that have no register, by offset from 0xFF00 (R48). -/
  io : Memory
  hram : Memory
  fault : Option UnknownOpcode
  /-- The count the last CPU step returned, in T-states (spec/00_scope.md R12 `cycles <- n`). Log entry 9. -/
  cycles : Nat
  /-- The model's own: button sets the host has queued, oldest first. Log entry 1. -/
  inputs : List Buttons
  /-- The model's own: how many frames were presented. Log entry 1. -/
  frames : Nat
  /-- The host's quit flag (R491). Log entry 3. -/
  quitRequested : Bool
  /-- The run was ended by the quit flag (R491). Log entry 3. -/
  ended : Bool
  deriving DecidableEq, Repr

/-- Why the machine stops with a fault. -/
inductive Fault where
  /-- An undefined opcode was fetched (spec/46_system.md R386, spec/60_exceptions.md R430): raised by the meaning of
  ILLEGAL, and again by every later step of the faulted state. Safe: the spec ends the run here. Log entry 4. -/
  | unknownOpcode (pc : Word) (byte : Byte)
  deriving DecidableEq, Repr

/-- Why a step has no meaning. -/
inductive Refusal where
  /-- An instruction that has no meaning in the model yet: raised in an arm of `exec` only. Safe. -/
  | notModelled (mnemonic : String)
  /-- The run was ended by the host's quit flag and no tick follows (R491): raised by a step of such a state. Safe. -/
  | runEnded
  deriving DecidableEq, Repr

/-- No button pressed. -/
def noButtons : Buttons :=
  { right := false, left := false, up := false, down := false, a := false, b := false, select := false, start := false }

/-- The cartridge of `State.reset`: the spec's "NoMBC cartridge of 32 KiB whose bytes are 0x00", without external RAM
(spec/95_test_vectors.md, Conventions). DESIGN CHOICE, log entry 2. -/
def Cart.blank : Cart := { rom := [], romSize := 0x8000, kind := .noMbc, romBanks := 2, ramBytes := 0 }

/-- The state after construction with a given cartridge: the table of R54 (spec/70_reset_and_hazards.md R520). -/
def State.resetWith (cart : Cart) : State :=
  { cpu := { a := 0x01, f := 0xB0, b := 0x00, c := 0x13, d := 0x00, e := 0xD8, h := 0x01, l := 0x4D, sp := 0xFFFE,
             pc := 0x0100, ime := false, imePending := false, run := .running }
    timer := { divider := 0, tacc := 0, tima := 0, tma := 0, tac := 0 }
    ppu := { lcdc := 0x91, statHi := 0, scy := 0, scx := 0, ly := 0, lyc := 0, bgp := 0xFC, obp0 := 0, obp1 := 0,
             wy := 0, wx := 0, mode := .oamScan, dot := 0, coincidence := true, winLine := 0,
             fb := List.replicate 144 (List.replicate 160 0), frameReady := false }
    joy := { sel5 := true, sel4 := true, pressed := noButtons }
    ifReg := 0, ieReg := 0, dma := 0
    mbc := { ramEnable := false, bankLo := 1, bankHi := 0, mode := false }
    cart := cart
    vram := [], extRam := [], wram := [], oam := [], io := [], hram := []
    fault := none, cycles := 0, inputs := [], frames := 0, quitRequested := false, ended := false }

/-- The machine right after reset. -/
def State.reset : State := State.resetWith Cart.blank

end Sys2Proof.Machine
end

