-- ==== Sys2Proof/Syntax.lean ====
section
/-! DEFINITION. The instructions as syntax: the register names and index tables' names of spec/00_scope.md R11, and
`Instr`, one constructor for each mnemonic of spec/opcode_table.json (spec/30_encoding.md R170, R171). A constructor is
named by its instruction's spelling in the spec with `at` before an operand in parentheses: `ld_a_atHL` is `LD A,(HL)`,
`ld_atHLinc_a` is `LD (HL+),A`, `rst_38` is `RST 0x38`. An argument `n`, `nn` or `e` is the operand bytes of R164. -/

namespace Sys2Proof

/-- The registers of the 3-bit field `r8`; index 6 is not a register (R11, spec/10_state.md R21). -/
inductive Reg8 where
  | b | c | d | e | h | l | a
  deriving DecidableEq, Repr

/-- What the 3-bit field `r8` names: a register, or for index 6 the memory byte at HL (R11). -/
inductive Operand8 where
  | reg (r : Reg8)
  | atHL
  deriving DecidableEq, Repr

/-- The pairs of the 2-bit field `r16` (R11). -/
inductive Reg16 where
  | bc | de | hl | sp
  deriving DecidableEq, Repr

/-- The pairs of the 2-bit field `r16stk` of PUSH and POP (R11). -/
inductive StkPair where
  | bc | de | hl | af
  deriving DecidableEq, Repr

/-- The four conditions of the 2-bit field `cc` (R11, spec/45_control.md R370). -/
inductive Cond where
  | nz | z | nc | c
  deriving DecidableEq, Repr

/-- The operation field y of the 8-bit arithmetic and logic block (spec/30_encoding.md R162). -/
inductive AluOp where
  | add | adc | sub | sbc | and | xor | or | cp
  deriving DecidableEq, Repr

/-- The operation field y of the rotate and shift block behind 0xCB (R163). -/
inductive RotOp where
  | rlc | rrc | rl | rr | sla | sra | swap | srl
  deriving DecidableEq, Repr

/-- The eleven undefined base opcodes (R172). -/
inductive UndefinedOpcode where
  | opD3 | opDB | opDD | opE3 | opE4 | opEB | opEC | opED | opF4 | opFC | opFD
  deriving DecidableEq, Repr

/-- The instructions: one constructor for each mnemonic of spec/opcode_table.json. The table's eleven rows ILLEGAL are
the one constructor `illegal` over the eleven bytes. The row PREFIX_CB is `prefix_cb`, which carries the second
opcode byte and is not well formed as an instruction of its own (spec/46_system.md R385, log entry 6). The constructors
with operand bytes stand first, then those without, each in the table's order. -/
inductive Instr where
  | illegal (u : UndefinedOpcode)  -- D3 DB DD E3 E4 EB EC ED F4 FC FD
  | ld_bc_nn (nn : Word)  -- 01 LD BC,nn
  | ld_b_n (n : Byte)  -- 06 LD B,n
  | ld_atNN_sp (nn : Word)  -- 08 LD (nn),SP
  | ld_c_n (n : Byte)  -- 0E LD C,n
  | stop (b : Byte)  -- 10 STOP
  | ld_de_nn (nn : Word)  -- 11 LD DE,nn
  | ld_d_n (n : Byte)  -- 16 LD D,n
  | jr_e (e : Byte)  -- 18 JR e
  | ld_e_n (n : Byte)  -- 1E LD E,n
  | jr_nz_e (e : Byte)  -- 20 JR NZ,e
  | ld_hl_nn (nn : Word)  -- 21 LD HL,nn
  | ld_h_n (n : Byte)  -- 26 LD H,n
  | jr_z_e (e : Byte)  -- 28 JR Z,e
  | ld_l_n (n : Byte)  -- 2E LD L,n
  | jr_nc_e (e : Byte)  -- 30 JR NC,e
  | ld_sp_nn (nn : Word)  -- 31 LD SP,nn
  | ld_atHL_n (n : Byte)  -- 36 LD (HL),n
  | jr_c_e (e : Byte)  -- 38 JR C,e
  | ld_a_n (n : Byte)  -- 3E LD A,n
  | jp_nz_nn (nn : Word)  -- C2 JP NZ,nn
  | jp_nn (nn : Word)  -- C3 JP nn
  | call_nz_nn (nn : Word)  -- C4 CALL NZ,nn
  | add_a_n (n : Byte)  -- C6 ADD A,n
  | jp_z_nn (nn : Word)  -- CA JP Z,nn
  | prefix_cb (op2 : Byte)  -- CB PREFIX CB
  | call_z_nn (nn : Word)  -- CC CALL Z,nn
  | call_nn (nn : Word)  -- CD CALL nn
  | adc_a_n (n : Byte)  -- CE ADC A,n
  | jp_nc_nn (nn : Word)  -- D2 JP NC,nn
  | call_nc_nn (nn : Word)  -- D4 CALL NC,nn
  | sub_n (n : Byte)  -- D6 SUB n
  | jp_c_nn (nn : Word)  -- DA JP C,nn
  | call_c_nn (nn : Word)  -- DC CALL C,nn
  | sbc_a_n (n : Byte)  -- DE SBC A,n
  | ldh_atN_a (n : Byte)  -- E0 LDH (n),A
  | and_n (n : Byte)  -- E6 AND n
  | add_sp_e (e : Byte)  -- E8 ADD SP,e
  | ld_atNN_a (nn : Word)  -- EA LD (nn),A
  | xor_n (n : Byte)  -- EE XOR n
  | ldh_a_atN (n : Byte)  -- F0 LDH A,(n)
  | or_n (n : Byte)  -- F6 OR n
  | ld_hl_sp_e (e : Byte)  -- F8 LD HL,SP+e
  | ld_a_atNN (nn : Word)  -- FA LD A,(nn)
  | cp_n (n : Byte)  -- FE CP n
  | nop  -- 00 NOP
  | ld_atBC_a  -- 02 LD (BC),A
  | inc_bc  -- 03 INC BC
  | inc_b  -- 04 INC B
  | dec_b  -- 05 DEC B
  | rlca  -- 07 RLCA
  | add_hl_bc  -- 09 ADD HL,BC
  | ld_a_atBC  -- 0A LD A,(BC)
  | dec_bc  -- 0B DEC BC
  | inc_c  -- 0C INC C
  | dec_c  -- 0D DEC C
  | rrca  -- 0F RRCA
  | ld_atDE_a  -- 12 LD (DE),A
  | inc_de  -- 13 INC DE
  | inc_d  -- 14 INC D
  | dec_d  -- 15 DEC D
  | rla  -- 17 RLA
  | add_hl_de  -- 19 ADD HL,DE
  | ld_a_atDE  -- 1A LD A,(DE)
  | dec_de  -- 1B DEC DE
  | inc_e  -- 1C INC E
  | dec_e  -- 1D DEC E
  | rra  -- 1F RRA
  | ld_atHLinc_a  -- 22 LD (HL+),A
  | inc_hl  -- 23 INC HL
  | inc_h  -- 24 INC H
  | dec_h  -- 25 DEC H
  | daa  -- 27 DAA
  | add_hl_hl  -- 29 ADD HL,HL
  | ld_a_atHLinc  -- 2A LD A,(HL+)
  | dec_hl  -- 2B DEC HL
  | inc_l  -- 2C INC L
  | dec_l  -- 2D DEC L
  | cpl  -- 2F CPL
  | ld_atHLdec_a  -- 32 LD (HL-),A
  | inc_sp  -- 33 INC SP
  | inc_atHL  -- 34 INC (HL)
  | dec_atHL  -- 35 DEC (HL)
  | scf  -- 37 SCF
  | add_hl_sp  -- 39 ADD HL,SP
  | ld_a_atHLdec  -- 3A LD A,(HL-)
  | dec_sp  -- 3B DEC SP
  | inc_a  -- 3C INC A
  | dec_a  -- 3D DEC A
  | ccf  -- 3F CCF
  | ld_b_b  -- 40 LD B,B
  | ld_b_c  -- 41 LD B,C
  | ld_b_d  -- 42 LD B,D
  | ld_b_e  -- 43 LD B,E
  | ld_b_h  -- 44 LD B,H
  | ld_b_l  -- 45 LD B,L
  | ld_b_atHL  -- 46 LD B,(HL)
  | ld_b_a  -- 47 LD B,A
  | ld_c_b  -- 48 LD C,B
  | ld_c_c  -- 49 LD C,C
  | ld_c_d  -- 4A LD C,D
  | ld_c_e  -- 4B LD C,E
  | ld_c_h  -- 4C LD C,H
  | ld_c_l  -- 4D LD C,L
  | ld_c_atHL  -- 4E LD C,(HL)
  | ld_c_a  -- 4F LD C,A
  | ld_d_b  -- 50 LD D,B
  | ld_d_c  -- 51 LD D,C
  | ld_d_d  -- 52 LD D,D
  | ld_d_e  -- 53 LD D,E
  | ld_d_h  -- 54 LD D,H
  | ld_d_l  -- 55 LD D,L
  | ld_d_atHL  -- 56 LD D,(HL)
  | ld_d_a  -- 57 LD D,A
  | ld_e_b  -- 58 LD E,B
  | ld_e_c  -- 59 LD E,C
  | ld_e_d  -- 5A LD E,D
  | ld_e_e  -- 5B LD E,E
  | ld_e_h  -- 5C LD E,H
  | ld_e_l  -- 5D LD E,L
  | ld_e_atHL  -- 5E LD E,(HL)
  | ld_e_a  -- 5F LD E,A
  | ld_h_b  -- 60 LD H,B
  | ld_h_c  -- 61 LD H,C
  | ld_h_d  -- 62 LD H,D
  | ld_h_e  -- 63 LD H,E
  | ld_h_h  -- 64 LD H,H
  | ld_h_l  -- 65 LD H,L
  | ld_h_atHL  -- 66 LD H,(HL)
  | ld_h_a  -- 67 LD H,A
  | ld_l_b  -- 68 LD L,B
  | ld_l_c  -- 69 LD L,C
  | ld_l_d  -- 6A LD L,D
  | ld_l_e  -- 6B LD L,E
  | ld_l_h  -- 6C LD L,H
  | ld_l_l  -- 6D LD L,L
  | ld_l_atHL  -- 6E LD L,(HL)
  | ld_l_a  -- 6F LD L,A
  | ld_atHL_b  -- 70 LD (HL),B
  | ld_atHL_c  -- 71 LD (HL),C
  | ld_atHL_d  -- 72 LD (HL),D
  | ld_atHL_e  -- 73 LD (HL),E
  | ld_atHL_h  -- 74 LD (HL),H
  | ld_atHL_l  -- 75 LD (HL),L
  | halt  -- 76 HALT
  | ld_atHL_a  -- 77 LD (HL),A
  | ld_a_b  -- 78 LD A,B
  | ld_a_c  -- 79 LD A,C
  | ld_a_d  -- 7A LD A,D
  | ld_a_e  -- 7B LD A,E
  | ld_a_h  -- 7C LD A,H
  | ld_a_l  -- 7D LD A,L
  | ld_a_atHL  -- 7E LD A,(HL)
  | ld_a_a  -- 7F LD A,A
  | add_a_b  -- 80 ADD A,B
  | add_a_c  -- 81 ADD A,C
  | add_a_d  -- 82 ADD A,D
  | add_a_e  -- 83 ADD A,E
  | add_a_h  -- 84 ADD A,H
  | add_a_l  -- 85 ADD A,L
  | add_a_atHL  -- 86 ADD A,(HL)
  | add_a_a  -- 87 ADD A,A
  | adc_a_b  -- 88 ADC A,B
  | adc_a_c  -- 89 ADC A,C
  | adc_a_d  -- 8A ADC A,D
  | adc_a_e  -- 8B ADC A,E
  | adc_a_h  -- 8C ADC A,H
  | adc_a_l  -- 8D ADC A,L
  | adc_a_atHL  -- 8E ADC A,(HL)
  | adc_a_a  -- 8F ADC A,A
  | sub_b  -- 90 SUB B
  | sub_c  -- 91 SUB C
  | sub_d  -- 92 SUB D
  | sub_e  -- 93 SUB E
  | sub_h  -- 94 SUB H
  | sub_l  -- 95 SUB L
  | sub_atHL  -- 96 SUB (HL)
  | sub_a  -- 97 SUB A
  | sbc_a_b  -- 98 SBC A,B
  | sbc_a_c  -- 99 SBC A,C
  | sbc_a_d  -- 9A SBC A,D
  | sbc_a_e  -- 9B SBC A,E
  | sbc_a_h  -- 9C SBC A,H
  | sbc_a_l  -- 9D SBC A,L
  | sbc_a_atHL  -- 9E SBC A,(HL)
  | sbc_a_a  -- 9F SBC A,A
  | and_b  -- A0 AND B
  | and_c  -- A1 AND C
  | and_d  -- A2 AND D
  | and_e  -- A3 AND E
  | and_h  -- A4 AND H
  | and_l  -- A5 AND L
  | and_atHL  -- A6 AND (HL)
  | and_a  -- A7 AND A
  | xor_b  -- A8 XOR B
  | xor_c  -- A9 XOR C
  | xor_d  -- AA XOR D
  | xor_e  -- AB XOR E
  | xor_h  -- AC XOR H
  | xor_l  -- AD XOR L
  | xor_atHL  -- AE XOR (HL)
  | xor_a  -- AF XOR A
  | or_b  -- B0 OR B
  | or_c  -- B1 OR C
  | or_d  -- B2 OR D
  | or_e  -- B3 OR E
  | or_h  -- B4 OR H
  | or_l  -- B5 OR L
  | or_atHL  -- B6 OR (HL)
  | or_a  -- B7 OR A
  | cp_b  -- B8 CP B
  | cp_c  -- B9 CP C
  | cp_d  -- BA CP D
  | cp_e  -- BB CP E
  | cp_h  -- BC CP H
  | cp_l  -- BD CP L
  | cp_atHL  -- BE CP (HL)
  | cp_a  -- BF CP A
  | ret_nz  -- C0 RET NZ
  | pop_bc  -- C1 POP BC
  | push_bc  -- C5 PUSH BC
  | rst_00  -- C7 RST 0x00
  | ret_z  -- C8 RET Z
  | ret  -- C9 RET
  | rst_08  -- CF RST 0x08
  | ret_nc  -- D0 RET NC
  | pop_de  -- D1 POP DE
  | push_de  -- D5 PUSH DE
  | rst_10  -- D7 RST 0x10
  | ret_c  -- D8 RET C
  | reti  -- D9 RETI
  | rst_18  -- DF RST 0x18
  | pop_hl  -- E1 POP HL
  | ld_atC_a  -- E2 LD (C),A
  | push_hl  -- E5 PUSH HL
  | rst_20  -- E7 RST 0x20
  | jp_hl  -- E9 JP HL
  | rst_28  -- EF RST 0x28
  | pop_af  -- F1 POP AF
  | ld_a_atC  -- F2 LD A,(C)
  | di  -- F3 DI
  | push_af  -- F5 PUSH AF
  | rst_30  -- F7 RST 0x30
  | ld_sp_hl  -- F9 LD SP,HL
  | ei  -- FB EI
  | rst_38  -- FF RST 0x38
  | rlc_b  -- CB 00 RLC B
  | rlc_c  -- CB 01 RLC C
  | rlc_d  -- CB 02 RLC D
  | rlc_e  -- CB 03 RLC E
  | rlc_h  -- CB 04 RLC H
  | rlc_l  -- CB 05 RLC L
  | rlc_atHL  -- CB 06 RLC (HL)
  | rlc_a  -- CB 07 RLC A
  | rrc_b  -- CB 08 RRC B
  | rrc_c  -- CB 09 RRC C
  | rrc_d  -- CB 0A RRC D
  | rrc_e  -- CB 0B RRC E
  | rrc_h  -- CB 0C RRC H
  | rrc_l  -- CB 0D RRC L
  | rrc_atHL  -- CB 0E RRC (HL)
  | rrc_a  -- CB 0F RRC A
  | rl_b  -- CB 10 RL B
  | rl_c  -- CB 11 RL C
  | rl_d  -- CB 12 RL D
  | rl_e  -- CB 13 RL E
  | rl_h  -- CB 14 RL H
  | rl_l  -- CB 15 RL L
  | rl_atHL  -- CB 16 RL (HL)
  | rl_a  -- CB 17 RL A
  | rr_b  -- CB 18 RR B
  | rr_c  -- CB 19 RR C
  | rr_d  -- CB 1A RR D
  | rr_e  -- CB 1B RR E
  | rr_h  -- CB 1C RR H
  | rr_l  -- CB 1D RR L
  | rr_atHL  -- CB 1E RR (HL)
  | rr_a  -- CB 1F RR A
  | sla_b  -- CB 20 SLA B
  | sla_c  -- CB 21 SLA C
  | sla_d  -- CB 22 SLA D
  | sla_e  -- CB 23 SLA E
  | sla_h  -- CB 24 SLA H
  | sla_l  -- CB 25 SLA L
  | sla_atHL  -- CB 26 SLA (HL)
  | sla_a  -- CB 27 SLA A
  | sra_b  -- CB 28 SRA B
  | sra_c  -- CB 29 SRA C
  | sra_d  -- CB 2A SRA D
  | sra_e  -- CB 2B SRA E
  | sra_h  -- CB 2C SRA H
  | sra_l  -- CB 2D SRA L
  | sra_atHL  -- CB 2E SRA (HL)
  | sra_a  -- CB 2F SRA A
  | swap_b  -- CB 30 SWAP B
  | swap_c  -- CB 31 SWAP C
  | swap_d  -- CB 32 SWAP D
  | swap_e  -- CB 33 SWAP E
  | swap_h  -- CB 34 SWAP H
  | swap_l  -- CB 35 SWAP L
  | swap_atHL  -- CB 36 SWAP (HL)
  | swap_a  -- CB 37 SWAP A
  | srl_b  -- CB 38 SRL B
  | srl_c  -- CB 39 SRL C
  | srl_d  -- CB 3A SRL D
  | srl_e  -- CB 3B SRL E
  | srl_h  -- CB 3C SRL H
  | srl_l  -- CB 3D SRL L
  | srl_atHL  -- CB 3E SRL (HL)
  | srl_a  -- CB 3F SRL A
  | bit_0_b  -- CB 40 BIT 0,B
  | bit_0_c  -- CB 41 BIT 0,C
  | bit_0_d  -- CB 42 BIT 0,D
  | bit_0_e  -- CB 43 BIT 0,E
  | bit_0_h  -- CB 44 BIT 0,H
  | bit_0_l  -- CB 45 BIT 0,L
  | bit_0_atHL  -- CB 46 BIT 0,(HL)
  | bit_0_a  -- CB 47 BIT 0,A
  | bit_1_b  -- CB 48 BIT 1,B
  | bit_1_c  -- CB 49 BIT 1,C
  | bit_1_d  -- CB 4A BIT 1,D
  | bit_1_e  -- CB 4B BIT 1,E
  | bit_1_h  -- CB 4C BIT 1,H
  | bit_1_l  -- CB 4D BIT 1,L
  | bit_1_atHL  -- CB 4E BIT 1,(HL)
  | bit_1_a  -- CB 4F BIT 1,A
  | bit_2_b  -- CB 50 BIT 2,B
  | bit_2_c  -- CB 51 BIT 2,C
  | bit_2_d  -- CB 52 BIT 2,D
  | bit_2_e  -- CB 53 BIT 2,E
  | bit_2_h  -- CB 54 BIT 2,H
  | bit_2_l  -- CB 55 BIT 2,L
  | bit_2_atHL  -- CB 56 BIT 2,(HL)
  | bit_2_a  -- CB 57 BIT 2,A
  | bit_3_b  -- CB 58 BIT 3,B
  | bit_3_c  -- CB 59 BIT 3,C
  | bit_3_d  -- CB 5A BIT 3,D
  | bit_3_e  -- CB 5B BIT 3,E
  | bit_3_h  -- CB 5C BIT 3,H
  | bit_3_l  -- CB 5D BIT 3,L
  | bit_3_atHL  -- CB 5E BIT 3,(HL)
  | bit_3_a  -- CB 5F BIT 3,A
  | bit_4_b  -- CB 60 BIT 4,B
  | bit_4_c  -- CB 61 BIT 4,C
  | bit_4_d  -- CB 62 BIT 4,D
  | bit_4_e  -- CB 63 BIT 4,E
  | bit_4_h  -- CB 64 BIT 4,H
  | bit_4_l  -- CB 65 BIT 4,L
  | bit_4_atHL  -- CB 66 BIT 4,(HL)
  | bit_4_a  -- CB 67 BIT 4,A
  | bit_5_b  -- CB 68 BIT 5,B
  | bit_5_c  -- CB 69 BIT 5,C
  | bit_5_d  -- CB 6A BIT 5,D
  | bit_5_e  -- CB 6B BIT 5,E
  | bit_5_h  -- CB 6C BIT 5,H
  | bit_5_l  -- CB 6D BIT 5,L
  | bit_5_atHL  -- CB 6E BIT 5,(HL)
  | bit_5_a  -- CB 6F BIT 5,A
  | bit_6_b  -- CB 70 BIT 6,B
  | bit_6_c  -- CB 71 BIT 6,C
  | bit_6_d  -- CB 72 BIT 6,D
  | bit_6_e  -- CB 73 BIT 6,E
  | bit_6_h  -- CB 74 BIT 6,H
  | bit_6_l  -- CB 75 BIT 6,L
  | bit_6_atHL  -- CB 76 BIT 6,(HL)
  | bit_6_a  -- CB 77 BIT 6,A
  | bit_7_b  -- CB 78 BIT 7,B
  | bit_7_c  -- CB 79 BIT 7,C
  | bit_7_d  -- CB 7A BIT 7,D
  | bit_7_e  -- CB 7B BIT 7,E
  | bit_7_h  -- CB 7C BIT 7,H
  | bit_7_l  -- CB 7D BIT 7,L
  | bit_7_atHL  -- CB 7E BIT 7,(HL)
  | bit_7_a  -- CB 7F BIT 7,A
  | res_0_b  -- CB 80 RES 0,B
  | res_0_c  -- CB 81 RES 0,C
  | res_0_d  -- CB 82 RES 0,D
  | res_0_e  -- CB 83 RES 0,E
  | res_0_h  -- CB 84 RES 0,H
  | res_0_l  -- CB 85 RES 0,L
  | res_0_atHL  -- CB 86 RES 0,(HL)
  | res_0_a  -- CB 87 RES 0,A
  | res_1_b  -- CB 88 RES 1,B
  | res_1_c  -- CB 89 RES 1,C
  | res_1_d  -- CB 8A RES 1,D
  | res_1_e  -- CB 8B RES 1,E
  | res_1_h  -- CB 8C RES 1,H
  | res_1_l  -- CB 8D RES 1,L
  | res_1_atHL  -- CB 8E RES 1,(HL)
  | res_1_a  -- CB 8F RES 1,A
  | res_2_b  -- CB 90 RES 2,B
  | res_2_c  -- CB 91 RES 2,C
  | res_2_d  -- CB 92 RES 2,D
  | res_2_e  -- CB 93 RES 2,E
  | res_2_h  -- CB 94 RES 2,H
  | res_2_l  -- CB 95 RES 2,L
  | res_2_atHL  -- CB 96 RES 2,(HL)
  | res_2_a  -- CB 97 RES 2,A
  | res_3_b  -- CB 98 RES 3,B
  | res_3_c  -- CB 99 RES 3,C
  | res_3_d  -- CB 9A RES 3,D
  | res_3_e  -- CB 9B RES 3,E
  | res_3_h  -- CB 9C RES 3,H
  | res_3_l  -- CB 9D RES 3,L
  | res_3_atHL  -- CB 9E RES 3,(HL)
  | res_3_a  -- CB 9F RES 3,A
  | res_4_b  -- CB A0 RES 4,B
  | res_4_c  -- CB A1 RES 4,C
  | res_4_d  -- CB A2 RES 4,D
  | res_4_e  -- CB A3 RES 4,E
  | res_4_h  -- CB A4 RES 4,H
  | res_4_l  -- CB A5 RES 4,L
  | res_4_atHL  -- CB A6 RES 4,(HL)
  | res_4_a  -- CB A7 RES 4,A
  | res_5_b  -- CB A8 RES 5,B
  | res_5_c  -- CB A9 RES 5,C
  | res_5_d  -- CB AA RES 5,D
  | res_5_e  -- CB AB RES 5,E
  | res_5_h  -- CB AC RES 5,H
  | res_5_l  -- CB AD RES 5,L
  | res_5_atHL  -- CB AE RES 5,(HL)
  | res_5_a  -- CB AF RES 5,A
  | res_6_b  -- CB B0 RES 6,B
  | res_6_c  -- CB B1 RES 6,C
  | res_6_d  -- CB B2 RES 6,D
  | res_6_e  -- CB B3 RES 6,E
  | res_6_h  -- CB B4 RES 6,H
  | res_6_l  -- CB B5 RES 6,L
  | res_6_atHL  -- CB B6 RES 6,(HL)
  | res_6_a  -- CB B7 RES 6,A
  | res_7_b  -- CB B8 RES 7,B
  | res_7_c  -- CB B9 RES 7,C
  | res_7_d  -- CB BA RES 7,D
  | res_7_e  -- CB BB RES 7,E
  | res_7_h  -- CB BC RES 7,H
  | res_7_l  -- CB BD RES 7,L
  | res_7_atHL  -- CB BE RES 7,(HL)
  | res_7_a  -- CB BF RES 7,A
  | set_0_b  -- CB C0 SET 0,B
  | set_0_c  -- CB C1 SET 0,C
  | set_0_d  -- CB C2 SET 0,D
  | set_0_e  -- CB C3 SET 0,E
  | set_0_h  -- CB C4 SET 0,H
  | set_0_l  -- CB C5 SET 0,L
  | set_0_atHL  -- CB C6 SET 0,(HL)
  | set_0_a  -- CB C7 SET 0,A
  | set_1_b  -- CB C8 SET 1,B
  | set_1_c  -- CB C9 SET 1,C
  | set_1_d  -- CB CA SET 1,D
  | set_1_e  -- CB CB SET 1,E
  | set_1_h  -- CB CC SET 1,H
  | set_1_l  -- CB CD SET 1,L
  | set_1_atHL  -- CB CE SET 1,(HL)
  | set_1_a  -- CB CF SET 1,A
  | set_2_b  -- CB D0 SET 2,B
  | set_2_c  -- CB D1 SET 2,C
  | set_2_d  -- CB D2 SET 2,D
  | set_2_e  -- CB D3 SET 2,E
  | set_2_h  -- CB D4 SET 2,H
  | set_2_l  -- CB D5 SET 2,L
  | set_2_atHL  -- CB D6 SET 2,(HL)
  | set_2_a  -- CB D7 SET 2,A
  | set_3_b  -- CB D8 SET 3,B
  | set_3_c  -- CB D9 SET 3,C
  | set_3_d  -- CB DA SET 3,D
  | set_3_e  -- CB DB SET 3,E
  | set_3_h  -- CB DC SET 3,H
  | set_3_l  -- CB DD SET 3,L
  | set_3_atHL  -- CB DE SET 3,(HL)
  | set_3_a  -- CB DF SET 3,A
  | set_4_b  -- CB E0 SET 4,B
  | set_4_c  -- CB E1 SET 4,C
  | set_4_d  -- CB E2 SET 4,D
  | set_4_e  -- CB E3 SET 4,E
  | set_4_h  -- CB E4 SET 4,H
  | set_4_l  -- CB E5 SET 4,L
  | set_4_atHL  -- CB E6 SET 4,(HL)
  | set_4_a  -- CB E7 SET 4,A
  | set_5_b  -- CB E8 SET 5,B
  | set_5_c  -- CB E9 SET 5,C
  | set_5_d  -- CB EA SET 5,D
  | set_5_e  -- CB EB SET 5,E
  | set_5_h  -- CB EC SET 5,H
  | set_5_l  -- CB ED SET 5,L
  | set_5_atHL  -- CB EE SET 5,(HL)
  | set_5_a  -- CB EF SET 5,A
  | set_6_b  -- CB F0 SET 6,B
  | set_6_c  -- CB F1 SET 6,C
  | set_6_d  -- CB F2 SET 6,D
  | set_6_e  -- CB F3 SET 6,E
  | set_6_h  -- CB F4 SET 6,H
  | set_6_l  -- CB F5 SET 6,L
  | set_6_atHL  -- CB F6 SET 6,(HL)
  | set_6_a  -- CB F7 SET 6,A
  | set_7_b  -- CB F8 SET 7,B
  | set_7_c  -- CB F9 SET 7,C
  | set_7_d  -- CB FA SET 7,D
  | set_7_e  -- CB FB SET 7,E
  | set_7_h  -- CB FC SET 7,H
  | set_7_l  -- CB FD SET 7,L
  | set_7_atHL  -- CB FE SET 7,(HL)
  | set_7_a  -- CB FF SET 7,A
  deriving DecidableEq, Repr

end Sys2Proof
end

