-- ==== Sys2Proof/Machine/Flags.lean ====
section
/-! DEFINITION. Every flag computation of the spec, apart from the state: the arithmetic laws add8 and sub8
(spec/42_alu8.md R260, R261), the logic operations (R262), INC and DEC (R288, R290), DAA (R292), the 16-bit additions
(spec/43_alu16.md R310, R313) and the rotates and shifts (spec/44_rotate_shift_bit.md R320 to R340). Sums are made
exactly, as natural numbers, and narrowed at the end. -/

namespace Sys2Proof.Machine

/-- F as a whole, `Z:N:H:C:0000` (R22, R263). -/
def packFlags (z n h c : Bool) : Byte :=
  BitVec.ofBool z ++ BitVec.ofBool n ++ BitVec.ofBool h ++ BitVec.ofBool c ++ 0#4

/-- A result byte and the four flags that go with it. -/
structure AluResult where
  r : Byte
  z : Bool
  n : Bool
  h : Bool
  c : Bool
  deriving DecidableEq, Repr

/-- The flags of a result as F. -/
def AluResult.flags (x : AluResult) : Byte := packFlags x.z x.n x.h x.c

/-- The low four bits of a byte, as a number. -/
def lowNibble (v : Byte) : Nat := v.toNat % 16

/-- `add8` (R260). -/
def add8 (a b : Byte) (cin : Bool) : AluResult :=
  let full := a.toNat + b.toNat + cin.toNat
  let r := BitVec.ofNat 8 full
  { r := r
    z := r == 0
    n := false
    h := decide (lowNibble a + lowNibble b + cin.toNat > 0x0F)
    c := decide (full > 0xFF) }

/-- `sub8` (R261). -/
def sub8 (a b : Byte) (cin : Bool) : AluResult :=
  let r := a - b - BitVec.ofNat 8 cin.toNat
  { r := r
    z := r == 0
    n := true
    h := decide (lowNibble a < lowNibble b + cin.toNat)
    c := decide (a.toNat < b.toNat + cin.toNat) }

/-- AND (R262). -/
def and8 (a b : Byte) : AluResult := { r := a &&& b, z := a &&& b == 0, n := false, h := true, c := false }

/-- XOR (R262). -/
def xor8 (a b : Byte) : AluResult := { r := a ^^^ b, z := a ^^^ b == 0, n := false, h := false, c := false }

/-- OR (R262). -/
def or8 (a b : Byte) : AluResult := { r := a ||| b, z := a ||| b == 0, n := false, h := false, c := false }

/-- The operation of the arithmetic and logic block on A and the second operand, with the carry flag it may read
(R262 to R287). CP computes as SUB does; that A keeps its value is `aluKeepsA`. -/
def aluResult (op : AluOp) (a s : Byte) (carry : Bool) : AluResult :=
  match op with
  | .add => add8 a s false
  | .adc => add8 a s carry
  | .sub => sub8 a s false
  | .sbc => sub8 a s carry
  | .and => and8 a s
  | .xor => xor8 a s
  | .or => or8 a s
  | .cp => sub8 a s false

/-- CP discards its result (R285). -/
def aluKeepsA (op : AluOp) : Bool :=
  match op with
  | .cp => true
  | _ => false

/-- INC on a byte; C is the carry before (R288). -/
def inc8 (v : Byte) (carry : Bool) : AluResult :=
  let r := v + 1
  { r := r, z := r == 0, n := false, h := decide (lowNibble v = 0x0F), c := carry }

/-- DEC on a byte; C is the carry before (R290). -/
def dec8 (v : Byte) (carry : Bool) : AluResult :=
  let r := v - 1
  { r := r, z := r == 0, n := true, h := decide (lowNibble v = 0x00), c := carry }

/-- DAA on A, with the flags N, H, C before (R292). -/
def daa8 (a : Byte) (n h c : Bool) : AluResult :=
  if n = false then
    let high := c || decide (a.toNat > 0x99)
    let a1 := if high then a + 0x60 else a
    let r := if h || decide (lowNibble a1 > 0x09) then a1 + 0x06 else a1
    { r := r, z := r == 0, n := n, h := false, c := high }
  else
    let a1 := if c then a - 0x60 else a
    let r := if h then a1 - 0x06 else a1
    { r := r, z := r == 0, n := n, h := false, c := c }

/-- A rotate or shift of the 0xCB block on a byte, with the carry flag it may read (R325 to R340). -/
def rot8 (op : RotOp) (v : Byte) (carry : Bool) : AluResult :=
  let done (r : Byte) (c : Bool) : AluResult := { r := r, z := r == 0, n := false, h := false, c := c }
  match op with
  | .rlc => done ((v <<< 1) ||| BitVec.setWidth 8 (BitVec.ofBool (v.getLsbD 7))) (v.getLsbD 7)
  | .rrc => done ((v >>> 1) ||| (BitVec.setWidth 8 (BitVec.ofBool (v.getLsbD 0)) <<< 7)) (v.getLsbD 0)
  | .rl => done ((v <<< 1) ||| BitVec.setWidth 8 (BitVec.ofBool carry)) (v.getLsbD 7)
  | .rr => done ((v >>> 1) ||| (BitVec.setWidth 8 (BitVec.ofBool carry) <<< 7)) (v.getLsbD 0)
  | .sla => done (v <<< 1) (v.getLsbD 7)
  | .sra => done ((v >>> 1) ||| (v &&& 0x80)) (v.getLsbD 0)
  | .swap => done ((v <<< 4) ||| (v >>> 4)) false
  | .srl => done (v >>> 1) (v.getLsbD 0)

/-- RLCA, RRCA, RLA and RRA: the rotate of the same name with Z cleared, "always clear Z regardless of result"
(R320 to R323). -/
def rotA8 (op : RotOp) (a : Byte) (carry : Bool) : AluResult := { rot8 op a carry with z := false }

/-- Byte `b` tested at bit `n`: Z is the complement, N = 0, H = 1, C as before (R341). -/
def bitFlags (v : Byte) (n : Fin 8) (carry : Bool) : Byte := packFlags (!v.getLsbD n.val) false true carry

/-- The mask of one bit, `1 << n`. -/
def bitMask (n : Fin 8) : Byte := (1 : Byte) <<< n.val

/-- `ADD HL,rr`: the sum, with Z as before, H the carry out of bit 11 and C the carry out of bit 15 (R310). -/
def add16 (hl s : Word) : Word := BitVec.ofNat 16 (hl.toNat + s.toNat)

/-- The flags of `ADD HL,rr` (R310). -/
def add16Flags (hl s : Word) (z : Bool) : Byte :=
  packFlags z false (decide (hl.toNat % 0x1000 + s.toNat % 0x1000 > 0x0FFF)) (decide (hl.toNat + s.toNat > 0xFFFF))

/-- The flags of `ADD SP,e` and `LD HL,SP+e`: Z = N = 0, H and C from the unsigned addition of the raw byte `e` to the
low byte of SP (R243, R313). -/
def addSpFlags (sp : Word) (e : Byte) : Byte :=
  packFlags false false (decide (sp.toNat % 0x10 + lowNibble e > 0x0F)) (decide (sp.toNat % 0x100 + e.toNat > 0xFF))

end Sys2Proof.Machine
end

