-- ==== Sys2Proof/WellFormed.lean ====
section
/-! DEFINITION. Which terms of `Instr` are instructions on their own. Every operand is carried at its exact width, so
the one check left is that the term is not the prefix row: 0xCB "is not an instruction by itself"
(spec/46_system.md R385). -/

namespace Sys2Proof

/-- Why a term is not a well-formed instruction. -/
inductive IllFormed where
  /-- The term is the prefix row with its second byte, which names another instruction (R385). -/
  | prefixIsNoInstruction
  deriving DecidableEq, Repr

/-- The first check a term fails, if any. -/
def Instr.illFormed : Instr → Option IllFormed
  | .prefix_cb _ => some .prefixIsNoInstruction
  | _ => none

/-- The term passes every check. -/
abbrev Instr.WellFormed (i : Instr) : Prop := i.illFormed = none

end Sys2Proof
end

