-- ==== Sys2Proof/Decode.lean ====
section
/-! DEFINITION. Bytes to instructions and back. The decoder follows the field patterns of spec/30_encoding.md R162 and
R163; the lengths are R165's lists; the encoder is written apart from it, opcode by opcode from the grids of R170 and
R171. `decodeTableWord` gives the decoder a word numbered as spec/opcode_table.json numbers it. -/

namespace Sys2Proof

/-! ## Byte order (R80, R164) -/

/-- A 16-bit value from its high and its low byte, `hi : lo` (spec/00_scope.md R10). -/
def word16 (hi lo : Byte) : Word := hi ++ lo

/-- Bits 15 to 8 of a 16-bit value. -/
def hiByte (w : Word) : Byte := w.extractLsb' 8 8

/-- Bits 7 to 0 of a 16-bit value. -/
def loByte (w : Word) : Byte := w.extractLsb' 0 8

/-! ## The index tables of spec/00_scope.md R11 -/

/-- `r8[i]` for i = 0 to 7: B, C, D, E, H, L, (HL), A. -/
def operand8At : Nat → Operand8
  | 0 => .reg .b | 1 => .reg .c | 2 => .reg .d | 3 => .reg .e
  | 4 => .reg .h | 5 => .reg .l | 6 => .atHL | _ => .reg .a

/-- `r16[i]` for i = 0 to 3: BC, DE, HL, SP. -/
def reg16At : Nat → Reg16
  | 0 => .bc | 1 => .de | 2 => .hl | _ => .sp

/-- `r16stk[i]` for i = 0 to 3: BC, DE, HL, AF. -/
def stkPairAt : Nat → StkPair
  | 0 => .bc | 1 => .de | 2 => .hl | _ => .af

/-- `cc[i]` for i = 0 to 3: NZ, Z, NC, C. -/
def condAt : Nat → Cond
  | 0 => .nz | 1 => .z | 2 => .nc | _ => .c

/-- The operation of the arithmetic and logic block: ADD, ADC, SUB, SBC, AND, XOR, OR, CP for y = 0 to 7 (R162). -/
def aluOpAt : Nat → AluOp
  | 0 => .add | 1 => .adc | 2 => .sub | 3 => .sbc | 4 => .and | 5 => .xor | 6 => .or | _ => .cp

/-- The operation of the rotate block: RLC, RRC, RL, RR, SLA, SRA, SWAP, SRL for y = 0 to 7 (R163). -/
def rotOpAt : Nat → RotOp
  | 0 => .rlc | 1 => .rrc | 2 => .rl | 3 => .rr | 4 => .sla | 5 => .sra | 6 => .swap | _ => .srl

/-- The opcode byte of an undefined opcode (R172). -/
def UndefinedOpcode.toByte : UndefinedOpcode → Byte
  | .opD3 => 0xD3 | .opDB => 0xDB | .opDD => 0xDD | .opE3 => 0xE3 | .opE4 => 0xE4 | .opEB => 0xEB
  | .opEC => 0xEC | .opED => 0xED | .opF4 => 0xF4 | .opFC => 0xFC | .opFD => 0xFD

/-! ## The instruction a pattern of R162 or R163 stands for, by its fields -/

/-- `01 yyy zzz`, neither index 6: `LD r8[y],r8[z]` (R200). -/
def Instr.ldRegReg : Reg8 → Reg8 → Instr
  | .b, .b => .ld_b_b | .b, .c => .ld_b_c | .b, .d => .ld_b_d | .b, .e => .ld_b_e | .b, .h => .ld_b_h | .b, .l => .ld_b_l | .b, .a => .ld_b_a
  | .c, .b => .ld_c_b | .c, .c => .ld_c_c | .c, .d => .ld_c_d | .c, .e => .ld_c_e | .c, .h => .ld_c_h | .c, .l => .ld_c_l | .c, .a => .ld_c_a
  | .d, .b => .ld_d_b | .d, .c => .ld_d_c | .d, .d => .ld_d_d | .d, .e => .ld_d_e | .d, .h => .ld_d_h | .d, .l => .ld_d_l | .d, .a => .ld_d_a
  | .e, .b => .ld_e_b | .e, .c => .ld_e_c | .e, .d => .ld_e_d | .e, .e => .ld_e_e | .e, .h => .ld_e_h | .e, .l => .ld_e_l | .e, .a => .ld_e_a
  | .h, .b => .ld_h_b | .h, .c => .ld_h_c | .h, .d => .ld_h_d | .h, .e => .ld_h_e | .h, .h => .ld_h_h | .h, .l => .ld_h_l | .h, .a => .ld_h_a
  | .l, .b => .ld_l_b | .l, .c => .ld_l_c | .l, .d => .ld_l_d | .l, .e => .ld_l_e | .l, .h => .ld_l_h | .l, .l => .ld_l_l | .l, .a => .ld_l_a
  | .a, .b => .ld_a_b | .a, .c => .ld_a_c | .a, .d => .ld_a_d | .a, .e => .ld_a_e | .a, .h => .ld_a_h | .a, .l => .ld_a_l | .a, .a => .ld_a_a

/-- `00 yyy 110`, y not 6: `LD r8[y],n` (R201). -/
def Instr.ldRegImm : Reg8 → Byte → Instr
  | .b, v => .ld_b_n v
  | .c, v => .ld_c_n v
  | .d, v => .ld_d_n v
  | .e, v => .ld_e_n v
  | .h, v => .ld_h_n v
  | .l, v => .ld_l_n v
  | .a, v => .ld_a_n v

/-- `01 yyy 110`, y not 6: `LD r8[y],(HL)` (R202). -/
def Instr.ldRegAtHL : Reg8 → Instr
  | .b => .ld_b_atHL
  | .c => .ld_c_atHL
  | .d => .ld_d_atHL
  | .e => .ld_e_atHL
  | .h => .ld_h_atHL
  | .l => .ld_l_atHL
  | .a => .ld_a_atHL

/-- `01 110 zzz`, z not 6: `LD (HL),r8[z]` (R203). -/
def Instr.ldAtHLReg : Reg8 → Instr
  | .b => .ld_atHL_b
  | .c => .ld_atHL_c
  | .d => .ld_atHL_d
  | .e => .ld_atHL_e
  | .h => .ld_atHL_h
  | .l => .ld_atHL_l
  | .a => .ld_atHL_a

/-- `10 yyy zzz`, z not 6: `ALU[y] A,r8[z]` (R263). -/
def Instr.aluReg : AluOp → Reg8 → Instr
  | .add, .b => .add_a_b | .add, .c => .add_a_c | .add, .d => .add_a_d | .add, .e => .add_a_e | .add, .h => .add_a_h | .add, .l => .add_a_l | .add, .a => .add_a_a
  | .adc, .b => .adc_a_b | .adc, .c => .adc_a_c | .adc, .d => .adc_a_d | .adc, .e => .adc_a_e | .adc, .h => .adc_a_h | .adc, .l => .adc_a_l | .adc, .a => .adc_a_a
  | .sub, .b => .sub_b | .sub, .c => .sub_c | .sub, .d => .sub_d | .sub, .e => .sub_e | .sub, .h => .sub_h | .sub, .l => .sub_l | .sub, .a => .sub_a
  | .sbc, .b => .sbc_a_b | .sbc, .c => .sbc_a_c | .sbc, .d => .sbc_a_d | .sbc, .e => .sbc_a_e | .sbc, .h => .sbc_a_h | .sbc, .l => .sbc_a_l | .sbc, .a => .sbc_a_a
  | .and, .b => .and_b | .and, .c => .and_c | .and, .d => .and_d | .and, .e => .and_e | .and, .h => .and_h | .and, .l => .and_l | .and, .a => .and_a
  | .xor, .b => .xor_b | .xor, .c => .xor_c | .xor, .d => .xor_d | .xor, .e => .xor_e | .xor, .h => .xor_h | .xor, .l => .xor_l | .xor, .a => .xor_a
  | .or, .b => .or_b | .or, .c => .or_c | .or, .d => .or_d | .or, .e => .or_e | .or, .h => .or_h | .or, .l => .or_l | .or, .a => .or_a
  | .cp, .b => .cp_b | .cp, .c => .cp_c | .cp, .d => .cp_d | .cp, .e => .cp_e | .cp, .h => .cp_h | .cp, .l => .cp_l | .cp, .a => .cp_a

/-- `10 yyy 110`: `ALU[y] A,(HL)` (R263). -/
def Instr.aluAtHL : AluOp → Instr
  | .add => .add_a_atHL
  | .adc => .adc_a_atHL
  | .sub => .sub_atHL
  | .sbc => .sbc_a_atHL
  | .and => .and_atHL
  | .xor => .xor_atHL
  | .or => .or_atHL
  | .cp => .cp_atHL

/-- `11 yyy 110`: `ALU[y] A,n` (R263). -/
def Instr.aluImm : AluOp → Byte → Instr
  | .add, v => .add_a_n v
  | .adc, v => .adc_a_n v
  | .sub, v => .sub_n v
  | .sbc, v => .sbc_a_n v
  | .and, v => .and_n v
  | .xor, v => .xor_n v
  | .or, v => .or_n v
  | .cp, v => .cp_n v

/-- `00 yyy 100`, y not 6: `INC r8[y]` (R288). -/
def Instr.incReg : Reg8 → Instr
  | .b => .inc_b
  | .c => .inc_c
  | .d => .inc_d
  | .e => .inc_e
  | .h => .inc_h
  | .l => .inc_l
  | .a => .inc_a

/-- `00 yyy 101`, y not 6: `DEC r8[y]` (R290). -/
def Instr.decReg : Reg8 → Instr
  | .b => .dec_b
  | .c => .dec_c
  | .d => .dec_d
  | .e => .dec_e
  | .h => .dec_h
  | .l => .dec_l
  | .a => .dec_a

/-- `00 pp0 001`: `LD r16[p],nn` (R240). -/
def Instr.ldPairImm : Reg16 → Word → Instr
  | .bc, v => .ld_bc_nn v
  | .de, v => .ld_de_nn v
  | .hl, v => .ld_hl_nn v
  | .sp, v => .ld_sp_nn v

/-- `00 pp1 001`: `ADD HL,r16[p]` (R310). -/
def Instr.addHLPair : Reg16 → Instr
  | .bc => .add_hl_bc
  | .de => .add_hl_de
  | .hl => .add_hl_hl
  | .sp => .add_hl_sp

/-- `00 pp0 011`: `INC r16[p]` (R311). -/
def Instr.incPair : Reg16 → Instr
  | .bc => .inc_bc
  | .de => .inc_de
  | .hl => .inc_hl
  | .sp => .inc_sp

/-- `00 pp1 011`: `DEC r16[p]` (R312). -/
def Instr.decPair : Reg16 → Instr
  | .bc => .dec_bc
  | .de => .dec_de
  | .hl => .dec_hl
  | .sp => .dec_sp

/-- `11 pp0 101`: `PUSH r16stk[p]` (R244). -/
def Instr.push : StkPair → Instr
  | .bc => .push_bc
  | .de => .push_de
  | .hl => .push_hl
  | .af => .push_af

/-- `11 pp0 001`: `POP r16stk[p]` (R245, R246). -/
def Instr.pop : StkPair → Instr
  | .bc => .pop_bc
  | .de => .pop_de
  | .hl => .pop_hl
  | .af => .pop_af

/-- `00 1cc 000`: `JR cc[c],e` (R364). -/
def Instr.jrCond : Cond → Byte → Instr
  | .nz, v => .jr_nz_e v
  | .z, v => .jr_z_e v
  | .nc, v => .jr_nc_e v
  | .c, v => .jr_c_e v

/-- `11 0cc 010`: `JP cc[c],nn` (R361). -/
def Instr.jpCond : Cond → Word → Instr
  | .nz, v => .jp_nz_nn v
  | .z, v => .jp_z_nn v
  | .nc, v => .jp_nc_nn v
  | .c, v => .jp_c_nn v

/-- `11 0cc 100`: `CALL cc[c],nn` (R366). -/
def Instr.callCond : Cond → Word → Instr
  | .nz, v => .call_nz_nn v
  | .z, v => .call_z_nn v
  | .nc, v => .call_nc_nn v
  | .c, v => .call_c_nn v

/-- `11 0cc 000`: `RET cc[c]` (R368). -/
def Instr.retCond : Cond → Instr
  | .nz => .ret_nz
  | .z => .ret_z
  | .nc => .ret_nc
  | .c => .ret_c

/-- `11 ttt 111`: `RST t×8` (R375). -/
def Instr.rst : Fin 8 → Instr
  | 0 => .rst_00 | 1 => .rst_08 | 2 => .rst_10 | 3 => .rst_18 | 4 => .rst_20 | 5 => .rst_28 | 6 => .rst_30 | 7 => .rst_38

/-- `00 yyy zzz` behind 0xCB: the rotate or shift y on `r8[z]` (R325 to R340). -/
def Instr.rot : RotOp → Operand8 → Instr
  | .rlc, .reg .b => .rlc_b | .rlc, .reg .c => .rlc_c | .rlc, .reg .d => .rlc_d | .rlc, .reg .e => .rlc_e | .rlc, .reg .h => .rlc_h | .rlc, .reg .l => .rlc_l | .rlc, .reg .a => .rlc_a | .rlc, .atHL => .rlc_atHL
  | .rrc, .reg .b => .rrc_b | .rrc, .reg .c => .rrc_c | .rrc, .reg .d => .rrc_d | .rrc, .reg .e => .rrc_e | .rrc, .reg .h => .rrc_h | .rrc, .reg .l => .rrc_l | .rrc, .reg .a => .rrc_a | .rrc, .atHL => .rrc_atHL
  | .rl, .reg .b => .rl_b | .rl, .reg .c => .rl_c | .rl, .reg .d => .rl_d | .rl, .reg .e => .rl_e | .rl, .reg .h => .rl_h | .rl, .reg .l => .rl_l | .rl, .reg .a => .rl_a | .rl, .atHL => .rl_atHL
  | .rr, .reg .b => .rr_b | .rr, .reg .c => .rr_c | .rr, .reg .d => .rr_d | .rr, .reg .e => .rr_e | .rr, .reg .h => .rr_h | .rr, .reg .l => .rr_l | .rr, .reg .a => .rr_a | .rr, .atHL => .rr_atHL
  | .sla, .reg .b => .sla_b | .sla, .reg .c => .sla_c | .sla, .reg .d => .sla_d | .sla, .reg .e => .sla_e | .sla, .reg .h => .sla_h | .sla, .reg .l => .sla_l | .sla, .reg .a => .sla_a | .sla, .atHL => .sla_atHL
  | .sra, .reg .b => .sra_b | .sra, .reg .c => .sra_c | .sra, .reg .d => .sra_d | .sra, .reg .e => .sra_e | .sra, .reg .h => .sra_h | .sra, .reg .l => .sra_l | .sra, .reg .a => .sra_a | .sra, .atHL => .sra_atHL
  | .swap, .reg .b => .swap_b | .swap, .reg .c => .swap_c | .swap, .reg .d => .swap_d | .swap, .reg .e => .swap_e | .swap, .reg .h => .swap_h | .swap, .reg .l => .swap_l | .swap, .reg .a => .swap_a | .swap, .atHL => .swap_atHL
  | .srl, .reg .b => .srl_b | .srl, .reg .c => .srl_c | .srl, .reg .d => .srl_d | .srl, .reg .e => .srl_e | .srl, .reg .h => .srl_h | .srl, .reg .l => .srl_l | .srl, .reg .a => .srl_a | .srl, .atHL => .srl_atHL

/-- `01 yyy zzz` behind 0xCB: `BIT y,r8[z]` (R341, R342). -/
def Instr.bit : Fin 8 → Operand8 → Instr
  | 0, .reg .b => .bit_0_b | 0, .reg .c => .bit_0_c | 0, .reg .d => .bit_0_d | 0, .reg .e => .bit_0_e | 0, .reg .h => .bit_0_h | 0, .reg .l => .bit_0_l | 0, .reg .a => .bit_0_a | 0, .atHL => .bit_0_atHL
  | 1, .reg .b => .bit_1_b | 1, .reg .c => .bit_1_c | 1, .reg .d => .bit_1_d | 1, .reg .e => .bit_1_e | 1, .reg .h => .bit_1_h | 1, .reg .l => .bit_1_l | 1, .reg .a => .bit_1_a | 1, .atHL => .bit_1_atHL
  | 2, .reg .b => .bit_2_b | 2, .reg .c => .bit_2_c | 2, .reg .d => .bit_2_d | 2, .reg .e => .bit_2_e | 2, .reg .h => .bit_2_h | 2, .reg .l => .bit_2_l | 2, .reg .a => .bit_2_a | 2, .atHL => .bit_2_atHL
  | 3, .reg .b => .bit_3_b | 3, .reg .c => .bit_3_c | 3, .reg .d => .bit_3_d | 3, .reg .e => .bit_3_e | 3, .reg .h => .bit_3_h | 3, .reg .l => .bit_3_l | 3, .reg .a => .bit_3_a | 3, .atHL => .bit_3_atHL
  | 4, .reg .b => .bit_4_b | 4, .reg .c => .bit_4_c | 4, .reg .d => .bit_4_d | 4, .reg .e => .bit_4_e | 4, .reg .h => .bit_4_h | 4, .reg .l => .bit_4_l | 4, .reg .a => .bit_4_a | 4, .atHL => .bit_4_atHL
  | 5, .reg .b => .bit_5_b | 5, .reg .c => .bit_5_c | 5, .reg .d => .bit_5_d | 5, .reg .e => .bit_5_e | 5, .reg .h => .bit_5_h | 5, .reg .l => .bit_5_l | 5, .reg .a => .bit_5_a | 5, .atHL => .bit_5_atHL
  | 6, .reg .b => .bit_6_b | 6, .reg .c => .bit_6_c | 6, .reg .d => .bit_6_d | 6, .reg .e => .bit_6_e | 6, .reg .h => .bit_6_h | 6, .reg .l => .bit_6_l | 6, .reg .a => .bit_6_a | 6, .atHL => .bit_6_atHL
  | 7, .reg .b => .bit_7_b | 7, .reg .c => .bit_7_c | 7, .reg .d => .bit_7_d | 7, .reg .e => .bit_7_e | 7, .reg .h => .bit_7_h | 7, .reg .l => .bit_7_l | 7, .reg .a => .bit_7_a | 7, .atHL => .bit_7_atHL

/-- `10 yyy zzz` behind 0xCB: `RES y,r8[z]` (R343, R344). -/
def Instr.res : Fin 8 → Operand8 → Instr
  | 0, .reg .b => .res_0_b | 0, .reg .c => .res_0_c | 0, .reg .d => .res_0_d | 0, .reg .e => .res_0_e | 0, .reg .h => .res_0_h | 0, .reg .l => .res_0_l | 0, .reg .a => .res_0_a | 0, .atHL => .res_0_atHL
  | 1, .reg .b => .res_1_b | 1, .reg .c => .res_1_c | 1, .reg .d => .res_1_d | 1, .reg .e => .res_1_e | 1, .reg .h => .res_1_h | 1, .reg .l => .res_1_l | 1, .reg .a => .res_1_a | 1, .atHL => .res_1_atHL
  | 2, .reg .b => .res_2_b | 2, .reg .c => .res_2_c | 2, .reg .d => .res_2_d | 2, .reg .e => .res_2_e | 2, .reg .h => .res_2_h | 2, .reg .l => .res_2_l | 2, .reg .a => .res_2_a | 2, .atHL => .res_2_atHL
  | 3, .reg .b => .res_3_b | 3, .reg .c => .res_3_c | 3, .reg .d => .res_3_d | 3, .reg .e => .res_3_e | 3, .reg .h => .res_3_h | 3, .reg .l => .res_3_l | 3, .reg .a => .res_3_a | 3, .atHL => .res_3_atHL
  | 4, .reg .b => .res_4_b | 4, .reg .c => .res_4_c | 4, .reg .d => .res_4_d | 4, .reg .e => .res_4_e | 4, .reg .h => .res_4_h | 4, .reg .l => .res_4_l | 4, .reg .a => .res_4_a | 4, .atHL => .res_4_atHL
  | 5, .reg .b => .res_5_b | 5, .reg .c => .res_5_c | 5, .reg .d => .res_5_d | 5, .reg .e => .res_5_e | 5, .reg .h => .res_5_h | 5, .reg .l => .res_5_l | 5, .reg .a => .res_5_a | 5, .atHL => .res_5_atHL
  | 6, .reg .b => .res_6_b | 6, .reg .c => .res_6_c | 6, .reg .d => .res_6_d | 6, .reg .e => .res_6_e | 6, .reg .h => .res_6_h | 6, .reg .l => .res_6_l | 6, .reg .a => .res_6_a | 6, .atHL => .res_6_atHL
  | 7, .reg .b => .res_7_b | 7, .reg .c => .res_7_c | 7, .reg .d => .res_7_d | 7, .reg .e => .res_7_e | 7, .reg .h => .res_7_h | 7, .reg .l => .res_7_l | 7, .reg .a => .res_7_a | 7, .atHL => .res_7_atHL

/-- `11 yyy zzz` behind 0xCB: `SET y,r8[z]` (R345, R346). -/
def Instr.set : Fin 8 → Operand8 → Instr
  | 0, .reg .b => .set_0_b | 0, .reg .c => .set_0_c | 0, .reg .d => .set_0_d | 0, .reg .e => .set_0_e | 0, .reg .h => .set_0_h | 0, .reg .l => .set_0_l | 0, .reg .a => .set_0_a | 0, .atHL => .set_0_atHL
  | 1, .reg .b => .set_1_b | 1, .reg .c => .set_1_c | 1, .reg .d => .set_1_d | 1, .reg .e => .set_1_e | 1, .reg .h => .set_1_h | 1, .reg .l => .set_1_l | 1, .reg .a => .set_1_a | 1, .atHL => .set_1_atHL
  | 2, .reg .b => .set_2_b | 2, .reg .c => .set_2_c | 2, .reg .d => .set_2_d | 2, .reg .e => .set_2_e | 2, .reg .h => .set_2_h | 2, .reg .l => .set_2_l | 2, .reg .a => .set_2_a | 2, .atHL => .set_2_atHL
  | 3, .reg .b => .set_3_b | 3, .reg .c => .set_3_c | 3, .reg .d => .set_3_d | 3, .reg .e => .set_3_e | 3, .reg .h => .set_3_h | 3, .reg .l => .set_3_l | 3, .reg .a => .set_3_a | 3, .atHL => .set_3_atHL
  | 4, .reg .b => .set_4_b | 4, .reg .c => .set_4_c | 4, .reg .d => .set_4_d | 4, .reg .e => .set_4_e | 4, .reg .h => .set_4_h | 4, .reg .l => .set_4_l | 4, .reg .a => .set_4_a | 4, .atHL => .set_4_atHL
  | 5, .reg .b => .set_5_b | 5, .reg .c => .set_5_c | 5, .reg .d => .set_5_d | 5, .reg .e => .set_5_e | 5, .reg .h => .set_5_h | 5, .reg .l => .set_5_l | 5, .reg .a => .set_5_a | 5, .atHL => .set_5_atHL
  | 6, .reg .b => .set_6_b | 6, .reg .c => .set_6_c | 6, .reg .d => .set_6_d | 6, .reg .e => .set_6_e | 6, .reg .h => .set_6_h | 6, .reg .l => .set_6_l | 6, .reg .a => .set_6_a | 6, .atHL => .set_6_atHL
  | 7, .reg .b => .set_7_b | 7, .reg .c => .set_7_c | 7, .reg .d => .set_7_d | 7, .reg .e => .set_7_e | 7, .reg .h => .set_7_h | 7, .reg .l => .set_7_l | 7, .reg .a => .set_7_a | 7, .atHL => .set_7_atHL

/-! ## The decoder -/

/-- The bit number field y of a 0xCB opcode (R163). -/
def bitNumber (y : Nat) : Fin 8 := Fin.ofNat 8 y

/-- The instruction of a second opcode byte behind 0xCB (R163, R171): all 256 are defined. -/
def decodeCb (op2 : Byte) : Instr :=
  let y := op2.toNat / 8 % 8
  let operand := operand8At (op2.toNat % 8)
  match op2.toNat / 64 with
  | 0 => .rot (rotOpAt y) operand
  | 1 => .bit (bitNumber y) operand
  | 2 => .res (bitNumber y) operand
  | _ => .set (bitNumber y) operand

/-- Base opcodes with x = 0, by the fields y and z (R162, R170); `n` and `nn` are the operand bytes. -/
def decodeX0 (y z : Nat) (n : Byte) (nn : Word) : Instr :=
  match z with
  | 0 =>
    match y with
    | 0 => .nop
    | 1 => .ld_atNN_sp nn
    | 2 => .stop n
    | 3 => .jr_e n
    | _ => .jrCond (condAt (y - 4)) n
  | 1 => if y % 2 = 0 then .ldPairImm (reg16At (y / 2)) nn else .addHLPair (reg16At (y / 2))
  | 2 =>
    match y with
    | 0 => .ld_atBC_a
    | 1 => .ld_a_atBC
    | 2 => .ld_atDE_a
    | 3 => .ld_a_atDE
    | 4 => .ld_atHLinc_a
    | 5 => .ld_a_atHLinc
    | 6 => .ld_atHLdec_a
    | _ => .ld_a_atHLdec
  | 3 => if y % 2 = 0 then .incPair (reg16At (y / 2)) else .decPair (reg16At (y / 2))
  | 4 => match operand8At y with | .reg r => .incReg r | .atHL => .inc_atHL
  | 5 => match operand8At y with | .reg r => .decReg r | .atHL => .dec_atHL
  | 6 => match operand8At y with | .reg r => .ldRegImm r n | .atHL => .ld_atHL_n n
  | _ =>
    match y with
    | 0 => .rlca
    | 1 => .rrca
    | 2 => .rla
    | 3 => .rra
    | 4 => .daa
    | 5 => .cpl
    | 6 => .scf
    | _ => .ccf

/-- Base opcodes with x = 1: `LD r8[y],r8[z]`, and HALT at y = z = 6 (R162, R170). -/
def decodeX1 (y z : Nat) : Instr :=
  match operand8At y, operand8At z with
  | .reg dst, .reg src => .ldRegReg dst src
  | .reg dst, .atHL => .ldRegAtHL dst
  | .atHL, .reg src => .ldAtHLReg src
  | .atHL, .atHL => .halt

/-- Base opcodes with x = 2: `ALU[y] A,r8[z]` (R162). -/
def decodeX2 (y z : Nat) : Instr :=
  match operand8At z with
  | .reg r => .aluReg (aluOpAt y) r
  | .atHL => .aluAtHL (aluOpAt y)

/-- Base opcodes with x = 3, by the fields y and z (R162, R170, R172). The prefix 0xCB (y = 1, z = 3) gives the
instruction of its second byte `n` (R385). -/
def decodeX3 (y z : Nat) (n : Byte) (nn : Word) : Instr :=
  match z with
  | 0 =>
    match y with
    | 4 => .ldh_atN_a n
    | 5 => .add_sp_e n
    | 6 => .ldh_a_atN n
    | 7 => .ld_hl_sp_e n
    | _ => .retCond (condAt y)
  | 1 =>
    match y with
    | 1 => .ret
    | 3 => .reti
    | 5 => .jp_hl
    | 7 => .ld_sp_hl
    | _ => .pop (stkPairAt (y / 2))
  | 2 =>
    match y with
    | 4 => .ld_atC_a
    | 5 => .ld_atNN_a nn
    | 6 => .ld_a_atC
    | 7 => .ld_a_atNN nn
    | _ => .jpCond (condAt y) nn
  | 3 =>
    match y with
    | 0 => .jp_nn nn
    | 1 => decodeCb n
    | 2 => .illegal .opD3
    | 3 => .illegal .opDB
    | 4 => .illegal .opE3
    | 5 => .illegal .opEB
    | 6 => .di
    | _ => .ei
  | 4 =>
    match y with
    | 4 => .illegal .opE4
    | 5 => .illegal .opEC
    | 6 => .illegal .opF4
    | 7 => .illegal .opFC
    | _ => .callCond (condAt y) nn
  | 5 =>
    match y with
    | 1 => .call_nn nn
    | 3 => .illegal .opDD
    | 5 => .illegal .opED
    | 7 => .illegal .opFD
    | _ => .push (stkPairAt (y / 2))
  | 6 => .aluImm (aluOpAt y) n
  | _ => .rst (bitNumber y)

/-- The instruction whose first three bytes are `b0`, `b1`, `b2`, total on all bytes. An instruction shorter than three
bytes does not read the rest (R160, R165). The operand `nn` is byte 2 : byte 1 (R164). -/
def decode3 (b0 b1 b2 : Byte) : Instr :=
  let y := b0.toNat / 8 % 8
  let z := b0.toNat % 8
  let nn := word16 b2 b1
  match b0.toNat / 64 with
  | 0 => decodeX0 y z b1 nn
  | 1 => decodeX1 y z
  | 2 => decodeX2 y z
  | _ => decodeX3 y z b1 nn

/-- The opcodes of length 3 (R165). -/
def opcodesOfLength3 : List Nat :=
  [0x01, 0x11, 0x21, 0x31, 0x08, 0xC2, 0xC3, 0xC4, 0xCA, 0xCC, 0xCD, 0xD2, 0xD4, 0xDA, 0xDC, 0xEA, 0xFA]

/-- The opcodes of length 2 (R165), the prefix 0xCB among them. -/
def opcodesOfLength2 : List Nat :=
  [0x06, 0x0E, 0x16, 0x1E, 0x26, 0x2E, 0x36, 0x3E] ++ [0x10, 0x18, 0x20, 0x28, 0x30, 0x38] ++
  [0xC6, 0xCE, 0xD6, 0xDE, 0xE6, 0xEE, 0xF6, 0xFE] ++ [0xE0, 0xF0, 0xE8, 0xF8, 0xCB]

/-- The length of an instruction by its opcode byte (R160, R165). An undefined opcode has no length; 1 is the byte
that is fetched before it faults (R172). -/
def instrLength (b0 : Byte) : Nat :=
  if b0.toNat ∈ opcodesOfLength3 then 3 else if b0.toNat ∈ opcodesOfLength2 then 2 else 1

/-- Why a byte list holds no instruction at its front. -/
inductive DecodeError where
  /-- There is no byte. -/
  | noBytes
  /-- The list ends inside the instruction whose first byte is given. -/
  | truncated (b0 : Byte)
  deriving DecidableEq, Repr

/-- The instruction at the front of a byte list and the bytes after it, or by name why there is none. -/
def decode : List Byte → Except DecodeError (Instr × List Byte)
  | [] => .error .noBytes
  | b0 :: rest =>
    if rest.length + 1 < instrLength b0 then .error (.truncated b0)
    else .ok (decode3 b0 (rest.getD 0 0) (rest.getD 1 0), rest.drop (instrLength b0 - 1))

/-! ## The encoder -/

/-- The bytes of an instruction, lowest address first (R161, R170, R171). -/
def encode : Instr → List Byte
  | .nop => [0x00]
  | .ld_bc_nn nn => [0x01, loByte nn, hiByte nn]
  | .ld_atBC_a => [0x02]
  | .inc_bc => [0x03]
  | .inc_b => [0x04]
  | .dec_b => [0x05]
  | .ld_b_n n => [0x06, n]
  | .rlca => [0x07]
  | .ld_atNN_sp nn => [0x08, loByte nn, hiByte nn]
  | .add_hl_bc => [0x09]
  | .ld_a_atBC => [0x0A]
  | .dec_bc => [0x0B]
  | .inc_c => [0x0C]
  | .dec_c => [0x0D]
  | .ld_c_n n => [0x0E, n]
  | .rrca => [0x0F]
  | .stop b => [0x10, b]
  | .ld_de_nn nn => [0x11, loByte nn, hiByte nn]
  | .ld_atDE_a => [0x12]
  | .inc_de => [0x13]
  | .inc_d => [0x14]
  | .dec_d => [0x15]
  | .ld_d_n n => [0x16, n]
  | .rla => [0x17]
  | .jr_e e => [0x18, e]
  | .add_hl_de => [0x19]
  | .ld_a_atDE => [0x1A]
  | .dec_de => [0x1B]
  | .inc_e => [0x1C]
  | .dec_e => [0x1D]
  | .ld_e_n n => [0x1E, n]
  | .rra => [0x1F]
  | .jr_nz_e e => [0x20, e]
  | .ld_hl_nn nn => [0x21, loByte nn, hiByte nn]
  | .ld_atHLinc_a => [0x22]
  | .inc_hl => [0x23]
  | .inc_h => [0x24]
  | .dec_h => [0x25]
  | .ld_h_n n => [0x26, n]
  | .daa => [0x27]
  | .jr_z_e e => [0x28, e]
  | .add_hl_hl => [0x29]
  | .ld_a_atHLinc => [0x2A]
  | .dec_hl => [0x2B]
  | .inc_l => [0x2C]
  | .dec_l => [0x2D]
  | .ld_l_n n => [0x2E, n]
  | .cpl => [0x2F]
  | .jr_nc_e e => [0x30, e]
  | .ld_sp_nn nn => [0x31, loByte nn, hiByte nn]
  | .ld_atHLdec_a => [0x32]
  | .inc_sp => [0x33]
  | .inc_atHL => [0x34]
  | .dec_atHL => [0x35]
  | .ld_atHL_n n => [0x36, n]
  | .scf => [0x37]
  | .jr_c_e e => [0x38, e]
  | .add_hl_sp => [0x39]
  | .ld_a_atHLdec => [0x3A]
  | .dec_sp => [0x3B]
  | .inc_a => [0x3C]
  | .dec_a => [0x3D]
  | .ld_a_n n => [0x3E, n]
  | .ccf => [0x3F]
  | .ld_b_b => [0x40]
  | .ld_b_c => [0x41]
  | .ld_b_d => [0x42]
  | .ld_b_e => [0x43]
  | .ld_b_h => [0x44]
  | .ld_b_l => [0x45]
  | .ld_b_atHL => [0x46]
  | .ld_b_a => [0x47]
  | .ld_c_b => [0x48]
  | .ld_c_c => [0x49]
  | .ld_c_d => [0x4A]
  | .ld_c_e => [0x4B]
  | .ld_c_h => [0x4C]
  | .ld_c_l => [0x4D]
  | .ld_c_atHL => [0x4E]
  | .ld_c_a => [0x4F]
  | .ld_d_b => [0x50]
  | .ld_d_c => [0x51]
  | .ld_d_d => [0x52]
  | .ld_d_e => [0x53]
  | .ld_d_h => [0x54]
  | .ld_d_l => [0x55]
  | .ld_d_atHL => [0x56]
  | .ld_d_a => [0x57]
  | .ld_e_b => [0x58]
  | .ld_e_c => [0x59]
  | .ld_e_d => [0x5A]
  | .ld_e_e => [0x5B]
  | .ld_e_h => [0x5C]
  | .ld_e_l => [0x5D]
  | .ld_e_atHL => [0x5E]
  | .ld_e_a => [0x5F]
  | .ld_h_b => [0x60]
  | .ld_h_c => [0x61]
  | .ld_h_d => [0x62]
  | .ld_h_e => [0x63]
  | .ld_h_h => [0x64]
  | .ld_h_l => [0x65]
  | .ld_h_atHL => [0x66]
  | .ld_h_a => [0x67]
  | .ld_l_b => [0x68]
  | .ld_l_c => [0x69]
  | .ld_l_d => [0x6A]
  | .ld_l_e => [0x6B]
  | .ld_l_h => [0x6C]
  | .ld_l_l => [0x6D]
  | .ld_l_atHL => [0x6E]
  | .ld_l_a => [0x6F]
  | .ld_atHL_b => [0x70]
  | .ld_atHL_c => [0x71]
  | .ld_atHL_d => [0x72]
  | .ld_atHL_e => [0x73]
  | .ld_atHL_h => [0x74]
  | .ld_atHL_l => [0x75]
  | .halt => [0x76]
  | .ld_atHL_a => [0x77]
  | .ld_a_b => [0x78]
  | .ld_a_c => [0x79]
  | .ld_a_d => [0x7A]
  | .ld_a_e => [0x7B]
  | .ld_a_h => [0x7C]
  | .ld_a_l => [0x7D]
  | .ld_a_atHL => [0x7E]
  | .ld_a_a => [0x7F]
  | .add_a_b => [0x80]
  | .add_a_c => [0x81]
  | .add_a_d => [0x82]
  | .add_a_e => [0x83]
  | .add_a_h => [0x84]
  | .add_a_l => [0x85]
  | .add_a_atHL => [0x86]
  | .add_a_a => [0x87]
  | .adc_a_b => [0x88]
  | .adc_a_c => [0x89]
  | .adc_a_d => [0x8A]
  | .adc_a_e => [0x8B]
  | .adc_a_h => [0x8C]
  | .adc_a_l => [0x8D]
  | .adc_a_atHL => [0x8E]
  | .adc_a_a => [0x8F]
  | .sub_b => [0x90]
  | .sub_c => [0x91]
  | .sub_d => [0x92]
  | .sub_e => [0x93]
  | .sub_h => [0x94]
  | .sub_l => [0x95]
  | .sub_atHL => [0x96]
  | .sub_a => [0x97]
  | .sbc_a_b => [0x98]
  | .sbc_a_c => [0x99]
  | .sbc_a_d => [0x9A]
  | .sbc_a_e => [0x9B]
  | .sbc_a_h => [0x9C]
  | .sbc_a_l => [0x9D]
  | .sbc_a_atHL => [0x9E]
  | .sbc_a_a => [0x9F]
  | .and_b => [0xA0]
  | .and_c => [0xA1]
  | .and_d => [0xA2]
  | .and_e => [0xA3]
  | .and_h => [0xA4]
  | .and_l => [0xA5]
  | .and_atHL => [0xA6]
  | .and_a => [0xA7]
  | .xor_b => [0xA8]
  | .xor_c => [0xA9]
  | .xor_d => [0xAA]
  | .xor_e => [0xAB]
  | .xor_h => [0xAC]
  | .xor_l => [0xAD]
  | .xor_atHL => [0xAE]
  | .xor_a => [0xAF]
  | .or_b => [0xB0]
  | .or_c => [0xB1]
  | .or_d => [0xB2]
  | .or_e => [0xB3]
  | .or_h => [0xB4]
  | .or_l => [0xB5]
  | .or_atHL => [0xB6]
  | .or_a => [0xB7]
  | .cp_b => [0xB8]
  | .cp_c => [0xB9]
  | .cp_d => [0xBA]
  | .cp_e => [0xBB]
  | .cp_h => [0xBC]
  | .cp_l => [0xBD]
  | .cp_atHL => [0xBE]
  | .cp_a => [0xBF]
  | .ret_nz => [0xC0]
  | .pop_bc => [0xC1]
  | .jp_nz_nn nn => [0xC2, loByte nn, hiByte nn]
  | .jp_nn nn => [0xC3, loByte nn, hiByte nn]
  | .call_nz_nn nn => [0xC4, loByte nn, hiByte nn]
  | .push_bc => [0xC5]
  | .add_a_n n => [0xC6, n]
  | .rst_00 => [0xC7]
  | .ret_z => [0xC8]
  | .ret => [0xC9]
  | .jp_z_nn nn => [0xCA, loByte nn, hiByte nn]
  | .prefix_cb op2 => [0xCB, op2]
  | .call_z_nn nn => [0xCC, loByte nn, hiByte nn]
  | .call_nn nn => [0xCD, loByte nn, hiByte nn]
  | .adc_a_n n => [0xCE, n]
  | .rst_08 => [0xCF]
  | .ret_nc => [0xD0]
  | .pop_de => [0xD1]
  | .jp_nc_nn nn => [0xD2, loByte nn, hiByte nn]
  | .call_nc_nn nn => [0xD4, loByte nn, hiByte nn]
  | .push_de => [0xD5]
  | .sub_n n => [0xD6, n]
  | .rst_10 => [0xD7]
  | .ret_c => [0xD8]
  | .reti => [0xD9]
  | .jp_c_nn nn => [0xDA, loByte nn, hiByte nn]
  | .call_c_nn nn => [0xDC, loByte nn, hiByte nn]
  | .sbc_a_n n => [0xDE, n]
  | .rst_18 => [0xDF]
  | .ldh_atN_a n => [0xE0, n]
  | .pop_hl => [0xE1]
  | .ld_atC_a => [0xE2]
  | .push_hl => [0xE5]
  | .and_n n => [0xE6, n]
  | .rst_20 => [0xE7]
  | .add_sp_e e => [0xE8, e]
  | .jp_hl => [0xE9]
  | .ld_atNN_a nn => [0xEA, loByte nn, hiByte nn]
  | .xor_n n => [0xEE, n]
  | .rst_28 => [0xEF]
  | .ldh_a_atN n => [0xF0, n]
  | .pop_af => [0xF1]
  | .ld_a_atC => [0xF2]
  | .di => [0xF3]
  | .push_af => [0xF5]
  | .or_n n => [0xF6, n]
  | .rst_30 => [0xF7]
  | .ld_hl_sp_e e => [0xF8, e]
  | .ld_sp_hl => [0xF9]
  | .ld_a_atNN nn => [0xFA, loByte nn, hiByte nn]
  | .ei => [0xFB]
  | .cp_n n => [0xFE, n]
  | .rst_38 => [0xFF]
  | .rlc_b => [0xCB, 0x00]
  | .rlc_c => [0xCB, 0x01]
  | .rlc_d => [0xCB, 0x02]
  | .rlc_e => [0xCB, 0x03]
  | .rlc_h => [0xCB, 0x04]
  | .rlc_l => [0xCB, 0x05]
  | .rlc_atHL => [0xCB, 0x06]
  | .rlc_a => [0xCB, 0x07]
  | .rrc_b => [0xCB, 0x08]
  | .rrc_c => [0xCB, 0x09]
  | .rrc_d => [0xCB, 0x0A]
  | .rrc_e => [0xCB, 0x0B]
  | .rrc_h => [0xCB, 0x0C]
  | .rrc_l => [0xCB, 0x0D]
  | .rrc_atHL => [0xCB, 0x0E]
  | .rrc_a => [0xCB, 0x0F]
  | .rl_b => [0xCB, 0x10]
  | .rl_c => [0xCB, 0x11]
  | .rl_d => [0xCB, 0x12]
  | .rl_e => [0xCB, 0x13]
  | .rl_h => [0xCB, 0x14]
  | .rl_l => [0xCB, 0x15]
  | .rl_atHL => [0xCB, 0x16]
  | .rl_a => [0xCB, 0x17]
  | .rr_b => [0xCB, 0x18]
  | .rr_c => [0xCB, 0x19]
  | .rr_d => [0xCB, 0x1A]
  | .rr_e => [0xCB, 0x1B]
  | .rr_h => [0xCB, 0x1C]
  | .rr_l => [0xCB, 0x1D]
  | .rr_atHL => [0xCB, 0x1E]
  | .rr_a => [0xCB, 0x1F]
  | .sla_b => [0xCB, 0x20]
  | .sla_c => [0xCB, 0x21]
  | .sla_d => [0xCB, 0x22]
  | .sla_e => [0xCB, 0x23]
  | .sla_h => [0xCB, 0x24]
  | .sla_l => [0xCB, 0x25]
  | .sla_atHL => [0xCB, 0x26]
  | .sla_a => [0xCB, 0x27]
  | .sra_b => [0xCB, 0x28]
  | .sra_c => [0xCB, 0x29]
  | .sra_d => [0xCB, 0x2A]
  | .sra_e => [0xCB, 0x2B]
  | .sra_h => [0xCB, 0x2C]
  | .sra_l => [0xCB, 0x2D]
  | .sra_atHL => [0xCB, 0x2E]
  | .sra_a => [0xCB, 0x2F]
  | .swap_b => [0xCB, 0x30]
  | .swap_c => [0xCB, 0x31]
  | .swap_d => [0xCB, 0x32]
  | .swap_e => [0xCB, 0x33]
  | .swap_h => [0xCB, 0x34]
  | .swap_l => [0xCB, 0x35]
  | .swap_atHL => [0xCB, 0x36]
  | .swap_a => [0xCB, 0x37]
  | .srl_b => [0xCB, 0x38]
  | .srl_c => [0xCB, 0x39]
  | .srl_d => [0xCB, 0x3A]
  | .srl_e => [0xCB, 0x3B]
  | .srl_h => [0xCB, 0x3C]
  | .srl_l => [0xCB, 0x3D]
  | .srl_atHL => [0xCB, 0x3E]
  | .srl_a => [0xCB, 0x3F]
  | .bit_0_b => [0xCB, 0x40]
  | .bit_0_c => [0xCB, 0x41]
  | .bit_0_d => [0xCB, 0x42]
  | .bit_0_e => [0xCB, 0x43]
  | .bit_0_h => [0xCB, 0x44]
  | .bit_0_l => [0xCB, 0x45]
  | .bit_0_atHL => [0xCB, 0x46]
  | .bit_0_a => [0xCB, 0x47]
  | .bit_1_b => [0xCB, 0x48]
  | .bit_1_c => [0xCB, 0x49]
  | .bit_1_d => [0xCB, 0x4A]
  | .bit_1_e => [0xCB, 0x4B]
  | .bit_1_h => [0xCB, 0x4C]
  | .bit_1_l => [0xCB, 0x4D]
  | .bit_1_atHL => [0xCB, 0x4E]
  | .bit_1_a => [0xCB, 0x4F]
  | .bit_2_b => [0xCB, 0x50]
  | .bit_2_c => [0xCB, 0x51]
  | .bit_2_d => [0xCB, 0x52]
  | .bit_2_e => [0xCB, 0x53]
  | .bit_2_h => [0xCB, 0x54]
  | .bit_2_l => [0xCB, 0x55]
  | .bit_2_atHL => [0xCB, 0x56]
  | .bit_2_a => [0xCB, 0x57]
  | .bit_3_b => [0xCB, 0x58]
  | .bit_3_c => [0xCB, 0x59]
  | .bit_3_d => [0xCB, 0x5A]
  | .bit_3_e => [0xCB, 0x5B]
  | .bit_3_h => [0xCB, 0x5C]
  | .bit_3_l => [0xCB, 0x5D]
  | .bit_3_atHL => [0xCB, 0x5E]
  | .bit_3_a => [0xCB, 0x5F]
  | .bit_4_b => [0xCB, 0x60]
  | .bit_4_c => [0xCB, 0x61]
  | .bit_4_d => [0xCB, 0x62]
  | .bit_4_e => [0xCB, 0x63]
  | .bit_4_h => [0xCB, 0x64]
  | .bit_4_l => [0xCB, 0x65]
  | .bit_4_atHL => [0xCB, 0x66]
  | .bit_4_a => [0xCB, 0x67]
  | .bit_5_b => [0xCB, 0x68]
  | .bit_5_c => [0xCB, 0x69]
  | .bit_5_d => [0xCB, 0x6A]
  | .bit_5_e => [0xCB, 0x6B]
  | .bit_5_h => [0xCB, 0x6C]
  | .bit_5_l => [0xCB, 0x6D]
  | .bit_5_atHL => [0xCB, 0x6E]
  | .bit_5_a => [0xCB, 0x6F]
  | .bit_6_b => [0xCB, 0x70]
  | .bit_6_c => [0xCB, 0x71]
  | .bit_6_d => [0xCB, 0x72]
  | .bit_6_e => [0xCB, 0x73]
  | .bit_6_h => [0xCB, 0x74]
  | .bit_6_l => [0xCB, 0x75]
  | .bit_6_atHL => [0xCB, 0x76]
  | .bit_6_a => [0xCB, 0x77]
  | .bit_7_b => [0xCB, 0x78]
  | .bit_7_c => [0xCB, 0x79]
  | .bit_7_d => [0xCB, 0x7A]
  | .bit_7_e => [0xCB, 0x7B]
  | .bit_7_h => [0xCB, 0x7C]
  | .bit_7_l => [0xCB, 0x7D]
  | .bit_7_atHL => [0xCB, 0x7E]
  | .bit_7_a => [0xCB, 0x7F]
  | .res_0_b => [0xCB, 0x80]
  | .res_0_c => [0xCB, 0x81]
  | .res_0_d => [0xCB, 0x82]
  | .res_0_e => [0xCB, 0x83]
  | .res_0_h => [0xCB, 0x84]
  | .res_0_l => [0xCB, 0x85]
  | .res_0_atHL => [0xCB, 0x86]
  | .res_0_a => [0xCB, 0x87]
  | .res_1_b => [0xCB, 0x88]
  | .res_1_c => [0xCB, 0x89]
  | .res_1_d => [0xCB, 0x8A]
  | .res_1_e => [0xCB, 0x8B]
  | .res_1_h => [0xCB, 0x8C]
  | .res_1_l => [0xCB, 0x8D]
  | .res_1_atHL => [0xCB, 0x8E]
  | .res_1_a => [0xCB, 0x8F]
  | .res_2_b => [0xCB, 0x90]
  | .res_2_c => [0xCB, 0x91]
  | .res_2_d => [0xCB, 0x92]
  | .res_2_e => [0xCB, 0x93]
  | .res_2_h => [0xCB, 0x94]
  | .res_2_l => [0xCB, 0x95]
  | .res_2_atHL => [0xCB, 0x96]
  | .res_2_a => [0xCB, 0x97]
  | .res_3_b => [0xCB, 0x98]
  | .res_3_c => [0xCB, 0x99]
  | .res_3_d => [0xCB, 0x9A]
  | .res_3_e => [0xCB, 0x9B]
  | .res_3_h => [0xCB, 0x9C]
  | .res_3_l => [0xCB, 0x9D]
  | .res_3_atHL => [0xCB, 0x9E]
  | .res_3_a => [0xCB, 0x9F]
  | .res_4_b => [0xCB, 0xA0]
  | .res_4_c => [0xCB, 0xA1]
  | .res_4_d => [0xCB, 0xA2]
  | .res_4_e => [0xCB, 0xA3]
  | .res_4_h => [0xCB, 0xA4]
  | .res_4_l => [0xCB, 0xA5]
  | .res_4_atHL => [0xCB, 0xA6]
  | .res_4_a => [0xCB, 0xA7]
  | .res_5_b => [0xCB, 0xA8]
  | .res_5_c => [0xCB, 0xA9]
  | .res_5_d => [0xCB, 0xAA]
  | .res_5_e => [0xCB, 0xAB]
  | .res_5_h => [0xCB, 0xAC]
  | .res_5_l => [0xCB, 0xAD]
  | .res_5_atHL => [0xCB, 0xAE]
  | .res_5_a => [0xCB, 0xAF]
  | .res_6_b => [0xCB, 0xB0]
  | .res_6_c => [0xCB, 0xB1]
  | .res_6_d => [0xCB, 0xB2]
  | .res_6_e => [0xCB, 0xB3]
  | .res_6_h => [0xCB, 0xB4]
  | .res_6_l => [0xCB, 0xB5]
  | .res_6_atHL => [0xCB, 0xB6]
  | .res_6_a => [0xCB, 0xB7]
  | .res_7_b => [0xCB, 0xB8]
  | .res_7_c => [0xCB, 0xB9]
  | .res_7_d => [0xCB, 0xBA]
  | .res_7_e => [0xCB, 0xBB]
  | .res_7_h => [0xCB, 0xBC]
  | .res_7_l => [0xCB, 0xBD]
  | .res_7_atHL => [0xCB, 0xBE]
  | .res_7_a => [0xCB, 0xBF]
  | .set_0_b => [0xCB, 0xC0]
  | .set_0_c => [0xCB, 0xC1]
  | .set_0_d => [0xCB, 0xC2]
  | .set_0_e => [0xCB, 0xC3]
  | .set_0_h => [0xCB, 0xC4]
  | .set_0_l => [0xCB, 0xC5]
  | .set_0_atHL => [0xCB, 0xC6]
  | .set_0_a => [0xCB, 0xC7]
  | .set_1_b => [0xCB, 0xC8]
  | .set_1_c => [0xCB, 0xC9]
  | .set_1_d => [0xCB, 0xCA]
  | .set_1_e => [0xCB, 0xCB]
  | .set_1_h => [0xCB, 0xCC]
  | .set_1_l => [0xCB, 0xCD]
  | .set_1_atHL => [0xCB, 0xCE]
  | .set_1_a => [0xCB, 0xCF]
  | .set_2_b => [0xCB, 0xD0]
  | .set_2_c => [0xCB, 0xD1]
  | .set_2_d => [0xCB, 0xD2]
  | .set_2_e => [0xCB, 0xD3]
  | .set_2_h => [0xCB, 0xD4]
  | .set_2_l => [0xCB, 0xD5]
  | .set_2_atHL => [0xCB, 0xD6]
  | .set_2_a => [0xCB, 0xD7]
  | .set_3_b => [0xCB, 0xD8]
  | .set_3_c => [0xCB, 0xD9]
  | .set_3_d => [0xCB, 0xDA]
  | .set_3_e => [0xCB, 0xDB]
  | .set_3_h => [0xCB, 0xDC]
  | .set_3_l => [0xCB, 0xDD]
  | .set_3_atHL => [0xCB, 0xDE]
  | .set_3_a => [0xCB, 0xDF]
  | .set_4_b => [0xCB, 0xE0]
  | .set_4_c => [0xCB, 0xE1]
  | .set_4_d => [0xCB, 0xE2]
  | .set_4_e => [0xCB, 0xE3]
  | .set_4_h => [0xCB, 0xE4]
  | .set_4_l => [0xCB, 0xE5]
  | .set_4_atHL => [0xCB, 0xE6]
  | .set_4_a => [0xCB, 0xE7]
  | .set_5_b => [0xCB, 0xE8]
  | .set_5_c => [0xCB, 0xE9]
  | .set_5_d => [0xCB, 0xEA]
  | .set_5_e => [0xCB, 0xEB]
  | .set_5_h => [0xCB, 0xEC]
  | .set_5_l => [0xCB, 0xED]
  | .set_5_atHL => [0xCB, 0xEE]
  | .set_5_a => [0xCB, 0xEF]
  | .set_6_b => [0xCB, 0xF0]
  | .set_6_c => [0xCB, 0xF1]
  | .set_6_d => [0xCB, 0xF2]
  | .set_6_e => [0xCB, 0xF3]
  | .set_6_h => [0xCB, 0xF4]
  | .set_6_l => [0xCB, 0xF5]
  | .set_6_atHL => [0xCB, 0xF6]
  | .set_6_a => [0xCB, 0xF7]
  | .set_7_b => [0xCB, 0xF8]
  | .set_7_c => [0xCB, 0xF9]
  | .set_7_d => [0xCB, 0xFA]
  | .set_7_e => [0xCB, 0xFB]
  | .set_7_h => [0xCB, 0xFC]
  | .set_7_l => [0xCB, 0xFD]
  | .set_7_atHL => [0xCB, 0xFE]
  | .set_7_a => [0xCB, 0xFF]
  | .illegal u => [u.toByte]

/-! ## Words numbered as spec/opcode_table.json numbers them -/

/-- The first three bytes of the instruction whose bits are `w`, bit 0 being the least significant bit of the first
byte and every bit from `nbits` on being 0. The table's 16-bit rows are those behind 0xCB and it writes them with the
prefix in the HIGH byte (R177: "byte 0, the prefix, in the high bits"), so a 16-bit word whose high byte is 0xCB is
read that way round. Log entry 5. -/
def tableBytes (nbits w : Nat) : Byte × Byte × Byte :=
  let v := w % 2 ^ nbits
  if nbits = 16 ∧ v / 256 = 0xCB then (0xCB, BitVec.ofNat 8 (v % 256), 0)
  else (BitVec.ofNat 8 (v % 256), BitVec.ofNat 8 (v / 256 % 256), BitVec.ofNat 8 (v / 65536 % 256))

/-- The instruction the decoder reads from a word of the opcode table; none where there is no byte. -/
def decodeTableWord (nbits w : Nat) : Option Instr :=
  if nbits = 0 then none
  else some (decode3 (tableBytes nbits w).1 (tableBytes nbits w).2.1 (tableBytes nbits w).2.2)

end Sys2Proof
end

