-- ==== Sys2Proof/Machine/Joypad.lean ====
section
/-! DEFINITION. The joypad's visible nibble (spec/60_exceptions.md R460). -/

namespace Sys2Proof.Machine

/-- One line of the nibble: 0 when its direction button is pressed and directions are selected, or its action button is
pressed and actions are selected (R460). A select bit of 0 selects. -/
def Joypad.line (j : Joypad) (direction action : Bool) : Bool :=
  !((!j.sel4 && direction) || (!j.sel5 && action))

/-- `JoyNibble()` of R460: line 0 Right and A, line 1 Left and B, line 2 Up and Select, line 3 Down and Start. -/
def Joypad.nibble (j : Joypad) : BitVec 4 :=
  BitVec.ofBool (j.line j.pressed.down j.pressed.start) ++
    BitVec.ofBool (j.line j.pressed.up j.pressed.select) ++
    BitVec.ofBool (j.line j.pressed.left j.pressed.b) ++
    BitVec.ofBool (j.line j.pressed.right j.pressed.a)

/-- What a read of P1 returns: bits 7 to 6 are 1, then the select bits, then the nibble (R33, spec/20_memory.md R100). -/
def Joypad.p1 (j : Joypad) : Byte :=
  (3#2) ++ BitVec.ofBool j.sel5 ++ BitVec.ofBool j.sel4 ++ j.nibble

/-- A write to P1 records bits 5 and 4 and nothing else (R33, R101). -/
def Joypad.writeP1 (j : Joypad) (v : Byte) : Joypad :=
  { j with sel5 := v.getLsbD 5, sel4 := v.getLsbD 4 }

/-- Some button is pressed. -/
def anyPressed (s : Buttons) : Bool :=
  s.right || s.left || s.up || s.down || s.a || s.b || s.select || s.start

end Sys2Proof.Machine
end

