-- ==== Sys2Proof/Machine/Memory.lean ====
section
/-! DEFINITION. One array of bytes as a list of offset and byte pairs in one canonical form. -/

namespace Sys2Proof.Machine

/-- What an offset that is not listed reads as: 0x00, the reset contents of every RAM (spec/10_state.md R51, R54). For
the cartridge image it only shortens the writing of an image. Log entry 7. -/
def Memory.unlisted : Byte := 0

/-- The byte at an offset. -/
def Memory.read : Memory → Nat → Byte
  | [], _ => Memory.unlisted
  | (k, v) :: m, o => if k = o then v else Memory.read m o

/-- The array with one byte set. Writing what an unlisted offset reads as leaves the offset unlisted. -/
def Memory.write : Memory → Nat → Byte → Memory
  | [], o, v => if v = Memory.unlisted then [] else [(o, v)]
  | (k, w) :: m, o, v =>
    if o < k then (if v = Memory.unlisted then (k, w) :: m else (o, v) :: (k, w) :: m)
    else if o = k then (if v = Memory.unlisted then m else (o, v) :: m)
    else (k, w) :: Memory.write m o v

/-- Every offset is at least `lo` and below `size`, offsets rise strictly, and no entry is the unlisted byte. -/
def Memory.wfFrom (lo size : Nat) : Memory → Bool
  | [] => true
  | (k, v) :: m => decide (lo ≤ k) && decide (k < size) && decide (v ≠ Memory.unlisted) && Memory.wfFrom (k + 1) size m

/-- The array of `size` bytes is in canonical form. -/
def Memory.wf (size : Nat) (m : Memory) : Bool := Memory.wfFrom 0 size m

/-- The canonical array that holds a list of bytes from an offset on. -/
def Memory.ofBytesFrom : Nat → List Byte → Memory
  | _, [] => []
  | o, v :: vs =>
    if v = Memory.unlisted then Memory.ofBytesFrom (o + 1) vs else (o, v) :: Memory.ofBytesFrom (o + 1) vs

/-- The canonical array of a list of bytes. -/
def Memory.ofBytes (bytes : List Byte) : Memory := Memory.ofBytesFrom 0 bytes

end Sys2Proof.Machine
end

