-- ==== Sys2Proof/Machine/Mmu.lean ====
section
/-! DEFINITION. The MMU: the dispatch of the 16-bit address space (spec/20_memory.md R84, R85), the I/O register file
(R100, R101), the cartridge and its bank controller (R135 to R140), and OAM DMA (R109). No access faults (R141). -/

namespace Sys2Proof.Machine

/-! ## The I/O registers and their addresses -/

/-- What an address of 0xFF00 to 0xFF7F names: a register, or plain storage at an offset (R100, R112). -/
inductive IoReg where
  | p1 | div | tima | tma | tac | ifReg
  | lcdc | stat | scy | scx | ly | lyc | dma | bgp | obp0 | obp1 | wy | wx
  | plain (o : Nat)
  deriving DecidableEq, Repr

/-- The register at an offset from 0xFF00 (R100). -/
def ioRegAt (o : Nat) : IoReg :=
  if o = 0x00 then .p1 else if o = 0x04 then .div else if o = 0x05 then .tima else if o = 0x06 then .tma
  else if o = 0x07 then .tac else if o = 0x0F then .ifReg else if o = 0x40 then .lcdc else if o = 0x41 then .stat
  else if o = 0x42 then .scy else if o = 0x43 then .scx else if o = 0x44 then .ly else if o = 0x45 then .lyc
  else if o = 0x46 then .dma else if o = 0x47 then .bgp else if o = 0x48 then .obp0 else if o = 0x49 then .obp1
  else if o = 0x4A then .wy else if o = 0x4B then .wx else .plain o

/-- What an address names: the region and the offset in it (R84). Echo is WRAM under another address (R91). -/
inductive Target where
  | rom (o : Nat)
  | vram (o : Nat)
  | extRam (o : Nat)
  | wram (o : Nat)
  | oam (o : Nat)
  | unusable
  | io (r : IoReg)
  | hram (o : Nat)
  | ie
  deriving DecidableEq, Repr

/-- The ranges of R84. -/
def target (addr : Word) : Target :=
  let x := addr.toNat
  if x < 0x8000 then .rom x
  else if x < 0xA000 then .vram (x - 0x8000)
  else if x < 0xC000 then .extRam (x - 0xA000)
  else if x < 0xE000 then .wram (x - 0xC000)
  else if x < 0xFE00 then .wram (x - 0xE000)
  else if x < 0xFEA0 then .oam (x - 0xFE00)
  else if x < 0xFF00 then .unusable
  else if x < 0xFF80 then .io (ioRegAt (x - 0xFF00))
  else if x < 0xFFFF then .hram (x - 0xFF80)
  else .ie

/-! ## The cartridge -/

/-- The bank shown at 0x0000 to 0x3FFF (R135, R136). -/
def romBankLow (s : State) : Nat :=
  match s.cart.kind with
  | .noMbc => 0
  | .mbc1 => if s.mbc.mode then (s.mbc.bankHi.toNat * 32) % s.cart.romBanks else 0

/-- The bank shown at 0x4000 to 0x7FFF (R135, R137): under NoMBC the image stands there unbanked, which is bank 1. -/
def romBankHigh (s : State) : Nat :=
  match s.cart.kind with
  | .noMbc => 1
  | .mbc1 => (s.mbc.bankHi.toNat * 32 + s.mbc.bankLo.toNat) % s.cart.romBanks

/-- The offset into the image of an address below 0x8000. -/
def romOffset (s : State) (x : Nat) : Nat :=
  if x < 0x4000 then romBankLow s * 0x4000 + x else romBankHigh s * 0x4000 + (x - 0x4000)

/-- `CartRead` (R135 to R137): the image's byte, or 0xFF past its end (R95). -/
def cartRead (s : State) (x : Nat) : Byte :=
  if romOffset s x < s.cart.romSize then s.cart.rom.read (romOffset s x) else 0xFF

/-- `CartWrite` (R135, R139): dropped under NoMBC, control state under MBC1. -/
def cartWrite (s : State) (x : Nat) (v : Byte) : State :=
  match s.cart.kind with
  | .noMbc => s
  | .mbc1 =>
    if x < 0x2000 then { s with mbc := { s.mbc with ramEnable := decide (v &&& 0x0F#8 = 0x0A#8) } }
    else if x < 0x4000 then
      { s with mbc := { s.mbc with bankLo := if v.setWidth 5 = 0 then 1 else v.setWidth 5 } }
    else if x < 0x6000 then { s with mbc := { s.mbc with bankHi := v.setWidth 2 } }
    else { s with mbc := { s.mbc with mode := v.getLsbD 0 } }

/-- The external RAM bank (R138): `bank_hi` in mode 1, else 0. -/
def ramBank (s : State) : Nat := if s.mbc.mode then s.mbc.bankHi.toNat else 0

/-- The cell of external RAM at an offset of its window, if the RAM is there and enabled (R135, R138). -/
def extRamOffset (s : State) (o : Nat) : Option Nat :=
  if s.cart.ramBytes = 0 then none
  else
    match s.cart.kind with
    | .noMbc => some (o % s.cart.ramBytes)
    | .mbc1 => if s.mbc.ramEnable then some ((ramBank s * 0x2000 + o) % s.cart.ramBytes) else none

/-- `CartRamRead`: 0xFF where the RAM is absent or disabled. -/
def extRamRead (s : State) (o : Nat) : Byte :=
  match extRamOffset s o with
  | none => 0xFF
  | some k => s.extRam.read k

/-- `CartRamWrite`: dropped where the RAM is absent or disabled. -/
def extRamWrite (s : State) (o : Nat) (v : Byte) : State :=
  match extRamOffset s o with
  | none => s
  | some k => { s with extRam := s.extRam.write k v }

/-! ## Reads -/

/-- A mode as STAT shows it (R41). -/
def PpuMode.bits : PpuMode → BitVec 2
  | .hblank => 0
  | .vblank => 1
  | .oamScan => 2
  | .drawing => 3

/-- What a read of STAT returns: `stat_hi[7:3] : coincidence : mode[1:0]` (R41, R100). -/
def Ppu.stat (p : Ppu) : Byte := p.statHi ++ BitVec.ofBool p.coincidence ++ p.mode.bits

/-- `IoRead` (R100). DIV is the divider's upper byte (R34). -/
def ioRead (s : State) : IoReg → Byte
  | .p1 => s.joy.p1
  | .div => s.timer.divider.extractLsb' 8 8
  | .tima => s.timer.tima
  | .tma => s.timer.tma
  | .tac => s.timer.tac
  | .ifReg => s.ifReg
  | .lcdc => s.ppu.lcdc
  | .stat => s.ppu.stat
  | .scy => s.ppu.scy
  | .scx => s.ppu.scx
  | .ly => s.ppu.ly
  | .lyc => s.ppu.lyc
  | .dma => s.dma
  | .bgp => s.ppu.bgp
  | .obp0 => s.ppu.obp0
  | .obp1 => s.ppu.obp1
  | .wy => s.ppu.wy
  | .wx => s.ppu.wx
  | .plain o => s.io.read o

/-- `MemRead(addr, 1)` (R84). -/
def memRead (s : State) (addr : Word) : Byte :=
  match target addr with
  | .rom x => cartRead s x
  | .vram o => s.vram.read o
  | .extRam o => extRamRead s o
  | .wram o => s.wram.read o
  | .oam o => s.oam.read o
  | .unusable => 0xFF
  | .io r => ioRead s r
  | .hram o => s.hram.read o
  | .ie => s.ieReg

/-! ## Writes -/

/-- One byte of an OAM DMA copy from page `v` (R109). -/
def oamDmaByte (v : Byte) (s : State) (i : Nat) : State :=
  { s with oam := s.oam.write i (memRead s (word16 v 0 + BitVec.ofNat 16 i)) }

/-- `OamDma(v)` (R109): 160 bytes from `v << 8`, in ascending order. -/
def oamDma (v : Byte) (s : State) : State := (List.range 160).foldl (oamDmaByte v) s

/-- `IoWrite` (R101). -/
def ioWrite (s : State) (r : IoReg) (v : Byte) : State :=
  match r with
  | .p1 => { s with joy := s.joy.writeP1 v }
  | .div => { s with timer := { s.timer with divider := 0 } }
  | .tima => { s with timer := { s.timer with tima := v } }
  | .tma => { s with timer := { s.timer with tma := v } }
  | .tac => { s with timer := { s.timer with tac := v } }
  | .ifReg => { s with ifReg := v }
  | .lcdc => { s with ppu := { s.ppu with lcdc := v } }
  | .stat => { s with ppu := { s.ppu with statHi := v.extractLsb' 3 5 } }
  | .scy => { s with ppu := { s.ppu with scy := v } }
  | .scx => { s with ppu := { s.ppu with scx := v } }
  | .ly => s
  | .lyc => { s with ppu := { s.ppu with lyc := v } }
  | .dma => oamDma v { s with dma := v }
  | .bgp => { s with ppu := { s.ppu with bgp := v } }
  | .obp0 => { s with ppu := { s.ppu with obp0 := v } }
  | .obp1 => { s with ppu := { s.ppu with obp1 := v } }
  | .wy => { s with ppu := { s.ppu with wy := v } }
  | .wx => { s with ppu := { s.ppu with wx := v } }
  | .plain o => { s with io := s.io.write o v }

/-- `MemWrite(addr, 1, v)` (R85). -/
def memWrite (s : State) (addr : Word) (v : Byte) : State :=
  match target addr with
  | .rom x => cartWrite s x v
  | .vram o => { s with vram := s.vram.write o v }
  | .extRam o => extRamWrite s o v
  | .wram o => { s with wram := s.wram.write o v }
  | .oam o => { s with oam := s.oam.write o v }
  | .unusable => s
  | .io r => ioWrite s r v
  | .hram o => { s with hram := s.hram.write o v }
  | .ie => { s with ieReg := v }

end Sys2Proof.Machine
end

