-- ==== Sys2Proof/Machine/Ops.lean ====
section
/-! DEFINITION. The named operations over registers and memory: register reads and writes (spec/00_scope.md R11,
spec/10_state.md R20 to R22), the stack and fetch primitives (R12), interrupt requests (spec/60_exceptions.md R403),
taking an interrupt (R411), the fault (R430) and the return from a handler (R418). -/

namespace Sys2Proof.Machine

/-- What a meaning answers. -/
abbrev Result := Host.Outcome State Fault Refusal

/-! ## Registers -/

/-- An 8-bit register (R20). -/
def State.reg8 (s : State) : Reg8 → Byte
  | .b => s.cpu.b
  | .c => s.cpu.c
  | .d => s.cpu.d
  | .e => s.cpu.e
  | .h => s.cpu.h
  | .l => s.cpu.l
  | .a => s.cpu.a

/-- The state with an 8-bit register written. -/
def State.setReg8 (s : State) (r : Reg8) (v : Byte) : State :=
  match r with
  | .b => { s with cpu := { s.cpu with b := v } }
  | .c => { s with cpu := { s.cpu with c := v } }
  | .d => { s with cpu := { s.cpu with d := v } }
  | .e => { s with cpu := { s.cpu with e := v } }
  | .h => { s with cpu := { s.cpu with h := v } }
  | .l => { s with cpu := { s.cpu with l := v } }
  | .a => { s with cpu := { s.cpu with a := v } }

/-- The state with A written. -/
def State.setA (s : State) (v : Byte) : State := { s with cpu := { s.cpu with a := v } }

/-- The state with F written: "Every write to F, by any path, stores `v & 0xF0`" (R22). -/
def State.setF (s : State) (v : Byte) : State := { s with cpu := { s.cpu with f := v &&& 0xF0 } }

/-- F.Z, bit 7 (R11, R27). -/
def State.flagZ (s : State) : Bool := s.cpu.f.getLsbD 7

/-- F.N, bit 6. -/
def State.flagN (s : State) : Bool := s.cpu.f.getLsbD 6

/-- F.H, bit 5. -/
def State.flagH (s : State) : Bool := s.cpu.f.getLsbD 5

/-- F.C, bit 4. -/
def State.flagC (s : State) : Bool := s.cpu.f.getLsbD 4

/-- AF = A:F (R20). -/
def State.af (s : State) : Word := word16 s.cpu.a s.cpu.f

/-- BC = B:C (R20). -/
def State.bc (s : State) : Word := word16 s.cpu.b s.cpu.c

/-- DE = D:E (R20). -/
def State.de (s : State) : Word := word16 s.cpu.d s.cpu.e

/-- HL = H:L (R20). -/
def State.hl (s : State) : Word := word16 s.cpu.h s.cpu.l

/-- The state with A and F written from a pair; F drops its low nibble (R22). -/
def State.setAF (s : State) (v : Word) : State := (s.setA (hiByte v)).setF (loByte v)

/-- The state with B and C written from a pair. -/
def State.setBC (s : State) (v : Word) : State := { s with cpu := { s.cpu with b := hiByte v, c := loByte v } }

/-- The state with D and E written from a pair. -/
def State.setDE (s : State) (v : Word) : State := { s with cpu := { s.cpu with d := hiByte v, e := loByte v } }

/-- The state with H and L written from a pair. -/
def State.setHL (s : State) (v : Word) : State := { s with cpu := { s.cpu with h := hiByte v, l := loByte v } }

/-- The state with SP written. -/
def State.setSP (s : State) (v : Word) : State := { s with cpu := { s.cpu with sp := v } }

/-- The state with PC written. -/
def State.setPC (s : State) (v : Word) : State := { s with cpu := { s.cpu with pc := v } }

/-- The state with IME written (R29). -/
def State.setIme (s : State) (v : Bool) : State := { s with cpu := { s.cpu with ime := v } }

/-- The state with ime_pending written (R31). -/
def State.setImePending (s : State) (v : Bool) : State := { s with cpu := { s.cpu with imePending := v } }

/-- The state with the run latch written (R30). -/
def State.setRun (s : State) (v : RunState) : State := { s with cpu := { s.cpu with run := v } }

/-- `cycles <- n` (R12). -/
def State.withCycles (s : State) (n : Nat) : State := { s with cycles := n }

/-- A pair of the field `r16` (R11). -/
def State.pair (s : State) : Reg16 → Word
  | .bc => s.bc
  | .de => s.de
  | .hl => s.hl
  | .sp => s.cpu.sp

/-- The state with a pair of the field `r16` written. -/
def State.setPair (s : State) (p : Reg16) (v : Word) : State :=
  match p with
  | .bc => s.setBC v
  | .de => s.setDE v
  | .hl => s.setHL v
  | .sp => s.setSP v

/-- A pair of the field `r16stk` (R11). -/
def State.stkPair (s : State) : StkPair → Word
  | .bc => s.bc
  | .de => s.de
  | .hl => s.hl
  | .af => s.af

/-- The state with a pair of the field `r16stk` written. -/
def State.setStkPair (s : State) (p : StkPair) (v : Word) : State :=
  match p with
  | .bc => s.setBC v
  | .de => s.setDE v
  | .hl => s.setHL v
  | .af => s.setAF v

/-! ## Stack and fetch -/

/-- `Push16` (R12): the high byte at SP - 1, then the low byte at SP - 2. -/
def push16 (s : State) (v : Word) : State :=
  let s1 := s.setSP (s.cpu.sp - 1)
  let s2 := memWrite s1 s1.cpu.sp (hiByte v)
  let s3 := s2.setSP (s2.cpu.sp - 1)
  memWrite s3 s3.cpu.sp (loByte v)

/-- What `Pop16` returns (R12): the low byte at SP, the high byte at SP + 1. -/
def popValue (s : State) : Word := word16 (memRead s (s.cpu.sp + 1)) (memRead s s.cpu.sp)

/-- What `Pop16` does to the state: SP + 2. -/
def popState (s : State) : State := s.setSP (s.cpu.sp + 2)

/-- The instruction at PC: its bytes are read through the MMU (spec/20_memory.md R153). Reads have no side effect (R83),
so reading a byte a shorter instruction does not have changes nothing. Log entry 12. -/
def fetchInstr (s : State) : Instr :=
  decode3 (memRead s s.cpu.pc) (memRead s (s.cpu.pc + 1)) (memRead s (s.cpu.pc + 2))

/-- The length of the instruction at PC (spec/30_encoding.md R165). -/
def fetchLength (s : State) : Nat := instrLength (memRead s s.cpu.pc)

/-- The state in which an instruction's meaning runs: PC is past its bytes (R13, R25). Log entry 12. -/
def pastInstr (s : State) : State := s.setPC (s.cpu.pc + BitVec.ofNat 16 (fetchLength s))

/-! ## Interrupts and the fault -/

/-- `RequestInterrupt(n)` (R403): `IF <- IF | (1 << n)`. -/
def requestInterrupt (n : Nat) (s : State) : State := { s with ifReg := s.ifReg ||| ((1 : Byte) <<< n) }

/-- `pending = IE & IF & 0x1F` (R404). -/
def State.pending (s : State) : Byte := s.ieReg &&& s.ifReg &&& 0x1F

/-- The least i in 0 to 4 with bit i set, if any (R410, R416). -/
def lowestPending (p : Byte) : Option Nat :=
  if p.getLsbD 0 then some 0
  else if p.getLsbD 1 then some 1
  else if p.getLsbD 2 then some 2
  else if p.getLsbD 3 then some 3
  else if p.getLsbD 4 then some 4
  else none

/-- The vector of interrupt n: 0x0040 + 8 × n (R404). -/
def vector (n : Nat) : Word := BitVec.ofNat 16 (0x40 + 8 * n)

/-- Taking interrupt n (R410, R411): IME and ime_pending are cleared, IF's bit n is cleared, PC is pushed, PC is the
vector, the CPU runs, and the step costs 20 cycles. -/
def takeInterrupt (n : Nat) (s : State) : State :=
  let s1 := (s.setIme false).setImePending false
  let s2 := { s1 with ifReg := s1.ifReg &&& ~~~((1 : Byte) <<< n) }
  let s3 := push16 s2 s2.cpu.pc
  ((s3.setPC (vector n)).setRun .running).withCycles 20

/-- Returning from a handler (R369, R418): PC is popped and IME is 1 at once; nothing else is restored. -/
def returnFromInterrupt (s : State) : State := ((popState s).setPC (popValue s)).setIme true

/-- `raise UnknownOpcode(pc0, op)` (R386, R430): the run ends. PC is past the one opcode byte when a meaning runs, so
pc0 is PC - 1. The state that stays is the one before the step. Log entry 4. -/
def raiseUnknownOpcode (op : Byte) (s : State) : Result := .fault (.unknownOpcode (s.cpu.pc - 1) op)

end Sys2Proof.Machine
end

