-- ==== Sys2Proof/Machine/Operands.lean ====
section
/-! DEFINITION. The operand forms (spec/30_encoding.md R164): the `r8` operand with its memory form at index 6, the
high-page addresses, the signed displacement, and the conditions (spec/45_control.md R370). -/

namespace Sys2Proof.Machine

/-- `sext_16(e)`: the signed displacement (R10, R164). -/
def sext16 (e : Byte) : Word := e.signExtend 16

/-- `0xFF00 + n`, of `LDH` and of `LD A,(C)`, `LD (C),A` (R164, R213, R214). -/
def highPage (n : Byte) : Word := word16 0xFF n

/-- The value of an `r8` operand: a register, or the byte at HL (R164). -/
def readOperand (s : State) : Operand8 → Byte
  | .reg r => s.reg8 r
  | .atHL => memRead s s.hl

/-- The state with an `r8` operand written: a register, or `MemWrite(HL, 1, v)` (R164). -/
def writeOperand (s : State) (o : Operand8) (v : Byte) : State :=
  match o with
  | .reg r => s.setReg8 r v
  | .atHL => memWrite s s.hl v

/-- `cond(c)` (R370). -/
def condHolds (s : State) : Cond → Bool
  | .nz => !s.flagZ
  | .z => s.flagZ
  | .nc => !s.flagC
  | .c => s.flagC

end Sys2Proof.Machine
end

