-- ==== Sys2Proof/Machine/Alu16.lean ====
section
/-! DEFINITION. 16-bit arithmetic (spec/43_alu16.md R310 to R313). -/

namespace Sys2Proof.Machine

/-- `ADD HL,rr`: 8 cycles; Z keeps its value (R310). -/
def addHL (p : Reg16) (s : State) : State :=
  ((s.setHL (add16 s.hl (s.pair p))).setF (add16Flags s.hl (s.pair p) s.flagZ)).withCycles 8

/-- `INC rr`: 8 cycles, no flag (R311). -/
def incPair (p : Reg16) (s : State) : State := (s.setPair p (s.pair p + 1)).withCycles 8

/-- `DEC rr`: 8 cycles, no flag (R312). -/
def decPair (p : Reg16) (s : State) : State := (s.setPair p (s.pair p - 1)).withCycles 8

/-- `ADD SP,e`: 16 cycles (R313). -/
def addSP (e : Byte) (s : State) : State :=
  ((s.setSP (s.cpu.sp + sext16 e)).setF (addSpFlags s.cpu.sp e)).withCycles 16

/-- 09 `ADD HL,BC` (R310). -/
def exec_add_hl_bc (s : State) : Result := .next (addHL .bc s)

/-- 19 `ADD HL,DE` (R310). -/
def exec_add_hl_de (s : State) : Result := .next (addHL .de s)

/-- 29 `ADD HL,HL` (R310). -/
def exec_add_hl_hl (s : State) : Result := .next (addHL .hl s)

/-- 39 `ADD HL,SP` (R310). -/
def exec_add_hl_sp (s : State) : Result := .next (addHL .sp s)

/-- 03 `INC BC` (R311). -/
def exec_inc_bc (s : State) : Result := .next (incPair .bc s)

/-- 13 `INC DE` (R311). -/
def exec_inc_de (s : State) : Result := .next (incPair .de s)

/-- 23 `INC HL` (R311). -/
def exec_inc_hl (s : State) : Result := .next (incPair .hl s)

/-- 33 `INC SP` (R311). -/
def exec_inc_sp (s : State) : Result := .next (incPair .sp s)

/-- 0B `DEC BC` (R312). -/
def exec_dec_bc (s : State) : Result := .next (decPair .bc s)

/-- 1B `DEC DE` (R312). -/
def exec_dec_de (s : State) : Result := .next (decPair .de s)

/-- 2B `DEC HL` (R312). -/
def exec_dec_hl (s : State) : Result := .next (decPair .hl s)

/-- 3B `DEC SP` (R312). -/
def exec_dec_sp (s : State) : Result := .next (decPair .sp s)

/-- E8 `ADD SP,e` (R313). -/
def exec_add_sp_e (e : Byte) (s : State) : Result := .next (addSP e s)

end Sys2Proof.Machine
end

