-- ==== Sys2Proof/Machine/Alu8.lean ====
section
/-! DEFINITION. 8-bit arithmetic and logic (spec/42_alu8.md R260 to R295). -/

namespace Sys2Proof.Machine

/-- `ALU[y] A,s` with the second operand's value given (R263): A gets the result, but for CP, and F is written whole. -/
def aluWith (op : AluOp) (v : Byte) (n : Nat) (s : State) : State :=
  let x := aluResult op s.cpu.a v s.flagC
  ((if aluKeepsA op then s else s.setA x.r).setF x.flags).withCycles n

/-- With a register: 4 cycles. -/
def aluReg (op : AluOp) (r : Reg8) (s : State) : State := aluWith op (s.reg8 r) 4 s

/-- With the byte at HL: 8 cycles. -/
def aluAtHL (op : AluOp) (s : State) : State := aluWith op (memRead s s.hl) 8 s

/-- With an immediate: 8 cycles. -/
def aluImm (op : AluOp) (n : Byte) (s : State) : State := aluWith op n 8 s

/-- INC of a register (4 cycles) or of the byte at HL (12 cycles): one read, one write, then the flags (R288, R289). -/
def incOperand (o : Operand8) (n : Nat) (s : State) : State :=
  let x := inc8 (readOperand s o) s.flagC
  ((writeOperand s o x.r).setF x.flags).withCycles n

/-- DEC of a register (4 cycles) or of the byte at HL (12 cycles) (R290, R291). -/
def decOperand (o : Operand8) (n : Nat) (s : State) : State :=
  let x := dec8 (readOperand s o) s.flagC
  ((writeOperand s o x.r).setF x.flags).withCycles n

/-- DAA: 4 cycles (R292). -/
def decimalAdjust (s : State) : State :=
  let x := daa8 s.cpu.a s.flagN s.flagH s.flagC
  ((s.setA x.r).setF x.flags).withCycles 4

/-- 80 `ADD A,B` (R264). -/
def exec_add_a_b (s : State) : Result := .next (aluReg .add .b s)

/-- 81 `ADD A,C` (R264). -/
def exec_add_a_c (s : State) : Result := .next (aluReg .add .c s)

/-- 82 `ADD A,D` (R264). -/
def exec_add_a_d (s : State) : Result := .next (aluReg .add .d s)

/-- 83 `ADD A,E` (R264). -/
def exec_add_a_e (s : State) : Result := .next (aluReg .add .e s)

/-- 84 `ADD A,H` (R264). -/
def exec_add_a_h (s : State) : Result := .next (aluReg .add .h s)

/-- 85 `ADD A,L` (R264). -/
def exec_add_a_l (s : State) : Result := .next (aluReg .add .l s)

/-- 87 `ADD A,A` (R264). -/
def exec_add_a_a (s : State) : Result := .next (aluReg .add .a s)

/-- 86 `ADD A,(HL)` (R265). -/
def exec_add_a_atHL (s : State) : Result := .next (aluAtHL .add s)

/-- C6 `ADD A,n` (R266). -/
def exec_add_a_n (n : Byte) (s : State) : Result := .next (aluImm .add n s)

/-- 88 `ADC A,B` (R267). -/
def exec_adc_a_b (s : State) : Result := .next (aluReg .adc .b s)

/-- 89 `ADC A,C` (R267). -/
def exec_adc_a_c (s : State) : Result := .next (aluReg .adc .c s)

/-- 8A `ADC A,D` (R267). -/
def exec_adc_a_d (s : State) : Result := .next (aluReg .adc .d s)

/-- 8B `ADC A,E` (R267). -/
def exec_adc_a_e (s : State) : Result := .next (aluReg .adc .e s)

/-- 8C `ADC A,H` (R267). -/
def exec_adc_a_h (s : State) : Result := .next (aluReg .adc .h s)

/-- 8D `ADC A,L` (R267). -/
def exec_adc_a_l (s : State) : Result := .next (aluReg .adc .l s)

/-- 8F `ADC A,A` (R267). -/
def exec_adc_a_a (s : State) : Result := .next (aluReg .adc .a s)

/-- 8E `ADC A,(HL)` (R268). -/
def exec_adc_a_atHL (s : State) : Result := .next (aluAtHL .adc s)

/-- CE `ADC A,n` (R269). -/
def exec_adc_a_n (n : Byte) (s : State) : Result := .next (aluImm .adc n s)

/-- 90 `SUB B` (R270). -/
def exec_sub_b (s : State) : Result := .next (aluReg .sub .b s)

/-- 91 `SUB C` (R270). -/
def exec_sub_c (s : State) : Result := .next (aluReg .sub .c s)

/-- 92 `SUB D` (R270). -/
def exec_sub_d (s : State) : Result := .next (aluReg .sub .d s)

/-- 93 `SUB E` (R270). -/
def exec_sub_e (s : State) : Result := .next (aluReg .sub .e s)

/-- 94 `SUB H` (R270). -/
def exec_sub_h (s : State) : Result := .next (aluReg .sub .h s)

/-- 95 `SUB L` (R270). -/
def exec_sub_l (s : State) : Result := .next (aluReg .sub .l s)

/-- 97 `SUB A` (R270). -/
def exec_sub_a (s : State) : Result := .next (aluReg .sub .a s)

/-- 96 `SUB (HL)` (R271). -/
def exec_sub_atHL (s : State) : Result := .next (aluAtHL .sub s)

/-- D6 `SUB n` (R272). -/
def exec_sub_n (n : Byte) (s : State) : Result := .next (aluImm .sub n s)

/-- 98 `SBC A,B` (R273). -/
def exec_sbc_a_b (s : State) : Result := .next (aluReg .sbc .b s)

/-- 99 `SBC A,C` (R273). -/
def exec_sbc_a_c (s : State) : Result := .next (aluReg .sbc .c s)

/-- 9A `SBC A,D` (R273). -/
def exec_sbc_a_d (s : State) : Result := .next (aluReg .sbc .d s)

/-- 9B `SBC A,E` (R273). -/
def exec_sbc_a_e (s : State) : Result := .next (aluReg .sbc .e s)

/-- 9C `SBC A,H` (R273). -/
def exec_sbc_a_h (s : State) : Result := .next (aluReg .sbc .h s)

/-- 9D `SBC A,L` (R273). -/
def exec_sbc_a_l (s : State) : Result := .next (aluReg .sbc .l s)

/-- 9F `SBC A,A` (R273). -/
def exec_sbc_a_a (s : State) : Result := .next (aluReg .sbc .a s)

/-- 9E `SBC A,(HL)` (R274). -/
def exec_sbc_a_atHL (s : State) : Result := .next (aluAtHL .sbc s)

/-- DE `SBC A,n` (R275). -/
def exec_sbc_a_n (n : Byte) (s : State) : Result := .next (aluImm .sbc n s)

/-- A0 `AND B` (R276). -/
def exec_and_b (s : State) : Result := .next (aluReg .and .b s)

/-- A1 `AND C` (R276). -/
def exec_and_c (s : State) : Result := .next (aluReg .and .c s)

/-- A2 `AND D` (R276). -/
def exec_and_d (s : State) : Result := .next (aluReg .and .d s)

/-- A3 `AND E` (R276). -/
def exec_and_e (s : State) : Result := .next (aluReg .and .e s)

/-- A4 `AND H` (R276). -/
def exec_and_h (s : State) : Result := .next (aluReg .and .h s)

/-- A5 `AND L` (R276). -/
def exec_and_l (s : State) : Result := .next (aluReg .and .l s)

/-- A7 `AND A` (R276). -/
def exec_and_a (s : State) : Result := .next (aluReg .and .a s)

/-- A6 `AND (HL)` (R277). -/
def exec_and_atHL (s : State) : Result := .next (aluAtHL .and s)

/-- E6 `AND n` (R278). -/
def exec_and_n (n : Byte) (s : State) : Result := .next (aluImm .and n s)

/-- A8 `XOR B` (R279). -/
def exec_xor_b (s : State) : Result := .next (aluReg .xor .b s)

/-- A9 `XOR C` (R279). -/
def exec_xor_c (s : State) : Result := .next (aluReg .xor .c s)

/-- AA `XOR D` (R279). -/
def exec_xor_d (s : State) : Result := .next (aluReg .xor .d s)

/-- AB `XOR E` (R279). -/
def exec_xor_e (s : State) : Result := .next (aluReg .xor .e s)

/-- AC `XOR H` (R279). -/
def exec_xor_h (s : State) : Result := .next (aluReg .xor .h s)

/-- AD `XOR L` (R279). -/
def exec_xor_l (s : State) : Result := .next (aluReg .xor .l s)

/-- AF `XOR A` (R279). -/
def exec_xor_a (s : State) : Result := .next (aluReg .xor .a s)

/-- AE `XOR (HL)` (R280). -/
def exec_xor_atHL (s : State) : Result := .next (aluAtHL .xor s)

/-- EE `XOR n` (R281). -/
def exec_xor_n (n : Byte) (s : State) : Result := .next (aluImm .xor n s)

/-- B0 `OR B` (R282). -/
def exec_or_b (s : State) : Result := .next (aluReg .or .b s)

/-- B1 `OR C` (R282). -/
def exec_or_c (s : State) : Result := .next (aluReg .or .c s)

/-- B2 `OR D` (R282). -/
def exec_or_d (s : State) : Result := .next (aluReg .or .d s)

/-- B3 `OR E` (R282). -/
def exec_or_e (s : State) : Result := .next (aluReg .or .e s)

/-- B4 `OR H` (R282). -/
def exec_or_h (s : State) : Result := .next (aluReg .or .h s)

/-- B5 `OR L` (R282). -/
def exec_or_l (s : State) : Result := .next (aluReg .or .l s)

/-- B7 `OR A` (R282). -/
def exec_or_a (s : State) : Result := .next (aluReg .or .a s)

/-- B6 `OR (HL)` (R283). -/
def exec_or_atHL (s : State) : Result := .next (aluAtHL .or s)

/-- F6 `OR n` (R284). -/
def exec_or_n (n : Byte) (s : State) : Result := .next (aluImm .or n s)

/-- B8 `CP B` (R285). -/
def exec_cp_b (s : State) : Result := .next (aluReg .cp .b s)

/-- B9 `CP C` (R285). -/
def exec_cp_c (s : State) : Result := .next (aluReg .cp .c s)

/-- BA `CP D` (R285). -/
def exec_cp_d (s : State) : Result := .next (aluReg .cp .d s)

/-- BB `CP E` (R285). -/
def exec_cp_e (s : State) : Result := .next (aluReg .cp .e s)

/-- BC `CP H` (R285). -/
def exec_cp_h (s : State) : Result := .next (aluReg .cp .h s)

/-- BD `CP L` (R285). -/
def exec_cp_l (s : State) : Result := .next (aluReg .cp .l s)

/-- BF `CP A` (R285). -/
def exec_cp_a (s : State) : Result := .next (aluReg .cp .a s)

/-- BE `CP (HL)` (R286). -/
def exec_cp_atHL (s : State) : Result := .next (aluAtHL .cp s)

/-- FE `CP n` (R287). -/
def exec_cp_n (n : Byte) (s : State) : Result := .next (aluImm .cp n s)

/-- 04 `INC B` (R288). -/
def exec_inc_b (s : State) : Result := .next (incOperand (.reg .b) 4 s)

/-- 0C `INC C` (R288). -/
def exec_inc_c (s : State) : Result := .next (incOperand (.reg .c) 4 s)

/-- 14 `INC D` (R288). -/
def exec_inc_d (s : State) : Result := .next (incOperand (.reg .d) 4 s)

/-- 1C `INC E` (R288). -/
def exec_inc_e (s : State) : Result := .next (incOperand (.reg .e) 4 s)

/-- 24 `INC H` (R288). -/
def exec_inc_h (s : State) : Result := .next (incOperand (.reg .h) 4 s)

/-- 2C `INC L` (R288). -/
def exec_inc_l (s : State) : Result := .next (incOperand (.reg .l) 4 s)

/-- 3C `INC A` (R288). -/
def exec_inc_a (s : State) : Result := .next (incOperand (.reg .a) 4 s)

/-- 34 `INC (HL)` (R289). -/
def exec_inc_atHL (s : State) : Result := .next (incOperand .atHL 12 s)

/-- 05 `DEC B` (R290). -/
def exec_dec_b (s : State) : Result := .next (decOperand (.reg .b) 4 s)

/-- 0D `DEC C` (R290). -/
def exec_dec_c (s : State) : Result := .next (decOperand (.reg .c) 4 s)

/-- 15 `DEC D` (R290). -/
def exec_dec_d (s : State) : Result := .next (decOperand (.reg .d) 4 s)

/-- 1D `DEC E` (R290). -/
def exec_dec_e (s : State) : Result := .next (decOperand (.reg .e) 4 s)

/-- 25 `DEC H` (R290). -/
def exec_dec_h (s : State) : Result := .next (decOperand (.reg .h) 4 s)

/-- 2D `DEC L` (R290). -/
def exec_dec_l (s : State) : Result := .next (decOperand (.reg .l) 4 s)

/-- 3D `DEC A` (R290). -/
def exec_dec_a (s : State) : Result := .next (decOperand (.reg .a) 4 s)

/-- 35 `DEC (HL)` (R291). -/
def exec_dec_atHL (s : State) : Result := .next (decOperand .atHL 12 s)

/-- 27 `DAA` (R292). -/
def exec_daa (s : State) : Result := .next (decimalAdjust s)

/-- 2F `CPL` (R293). -/
def exec_cpl (s : State) : Result := .next (((s.setA (~~~s.cpu.a)).setF (packFlags s.flagZ true true s.flagC)).withCycles 4)

/-- 37 `SCF` (R294). -/
def exec_scf (s : State) : Result := .next ((s.setF (packFlags s.flagZ false false true)).withCycles 4)

/-- 3F `CCF` (R295). -/
def exec_ccf (s : State) : Result := .next ((s.setF (packFlags s.flagZ false false (!s.flagC))).withCycles 4)

end Sys2Proof.Machine
end

