-- ==== Sys2Proof/Machine/Control.lean ====
section
/-! DEFINITION. Jumps, calls, returns and restarts (spec/45_control.md R360 to R375). A meaning runs with PC past the
instruction's bytes (R13), so the PC it reads is the address of the next instruction. A conditional instruction costs
differently taken and not taken (R370, spec/70_reset_and_hazards.md R545). -/

namespace Sys2Proof.Machine

/-- A jump to an address. -/
def jumpTo (addr : Word) (n : Nat) (s : State) : State := (s.setPC addr).withCycles n

/-- The target of a relative jump: the address of the next instruction plus the signed displacement (R363). -/
def relTarget (s : State) (e : Byte) : Word := s.cpu.pc + sext16 e

/-- `Push16(PC); PC <- addr` (R365, R375). -/
def callTo (addr : Word) (n : Nat) (s : State) : State := ((push16 s s.cpu.pc).setPC addr).withCycles n

/-- `PC <- Pop16()` (R367). -/
def returnTo (n : Nat) (s : State) : State := ((popState s).setPC (popValue s)).withCycles n

/-- `JP cc,nn`: 16 cycles taken, 12 not (R361). -/
def jumpCond (cc : Cond) (nn : Word) (s : State) : State :=
  if condHolds s cc then jumpTo nn 16 s else s.withCycles 12

/-- `JR cc,e`: 12 cycles taken, 8 not (R364). -/
def jumpRelCond (cc : Cond) (e : Byte) (s : State) : State :=
  if condHolds s cc then jumpTo (relTarget s e) 12 s else s.withCycles 8

/-- `CALL cc,nn`: 24 cycles taken, 12 not (R366). -/
def callCond (cc : Cond) (nn : Word) (s : State) : State :=
  if condHolds s cc then callTo nn 24 s else s.withCycles 12

/-- `RET cc`: 20 cycles taken, 8 not (R368). -/
def returnCond (cc : Cond) (s : State) : State :=
  if condHolds s cc then returnTo 20 s else s.withCycles 8

/-- `RST t`: a call to 8 × t, 16 cycles (R375). -/
def restart (t : Fin 8) (s : State) : State := callTo (BitVec.ofNat 16 (8 * t.val)) 16 s

/-- C3 `JP nn` (R360). -/
def exec_jp_nn (nn : Word) (s : State) : Result := .next (jumpTo nn 16 s)

/-- C2 `JP NZ,nn` (R361). -/
def exec_jp_nz_nn (nn : Word) (s : State) : Result := .next (jumpCond .nz nn s)

/-- CA `JP Z,nn` (R361). -/
def exec_jp_z_nn (nn : Word) (s : State) : Result := .next (jumpCond .z nn s)

/-- D2 `JP NC,nn` (R361). -/
def exec_jp_nc_nn (nn : Word) (s : State) : Result := .next (jumpCond .nc nn s)

/-- DA `JP C,nn` (R361). -/
def exec_jp_c_nn (nn : Word) (s : State) : Result := .next (jumpCond .c nn s)

/-- E9 `JP HL` (R362). -/
def exec_jp_hl (s : State) : Result := .next (jumpTo s.hl 4 s)

/-- 18 `JR e` (R363). -/
def exec_jr_e (e : Byte) (s : State) : Result := .next (jumpTo (relTarget s e) 12 s)

/-- 20 `JR NZ,e` (R364). -/
def exec_jr_nz_e (e : Byte) (s : State) : Result := .next (jumpRelCond .nz e s)

/-- 28 `JR Z,e` (R364). -/
def exec_jr_z_e (e : Byte) (s : State) : Result := .next (jumpRelCond .z e s)

/-- 30 `JR NC,e` (R364). -/
def exec_jr_nc_e (e : Byte) (s : State) : Result := .next (jumpRelCond .nc e s)

/-- 38 `JR C,e` (R364). -/
def exec_jr_c_e (e : Byte) (s : State) : Result := .next (jumpRelCond .c e s)

/-- CD `CALL nn` (R365). -/
def exec_call_nn (nn : Word) (s : State) : Result := .next (callTo nn 24 s)

/-- C4 `CALL NZ,nn` (R366). -/
def exec_call_nz_nn (nn : Word) (s : State) : Result := .next (callCond .nz nn s)

/-- CC `CALL Z,nn` (R366). -/
def exec_call_z_nn (nn : Word) (s : State) : Result := .next (callCond .z nn s)

/-- D4 `CALL NC,nn` (R366). -/
def exec_call_nc_nn (nn : Word) (s : State) : Result := .next (callCond .nc nn s)

/-- DC `CALL C,nn` (R366). -/
def exec_call_c_nn (nn : Word) (s : State) : Result := .next (callCond .c nn s)

/-- C9 `RET` (R367). -/
def exec_ret (s : State) : Result := .next (returnTo 16 s)

/-- C0 `RET NZ` (R368). -/
def exec_ret_nz (s : State) : Result := .next (returnCond .nz s)

/-- C8 `RET Z` (R368). -/
def exec_ret_z (s : State) : Result := .next (returnCond .z s)

/-- D0 `RET NC` (R368). -/
def exec_ret_nc (s : State) : Result := .next (returnCond .nc s)

/-- D8 `RET C` (R368). -/
def exec_ret_c (s : State) : Result := .next (returnCond .c s)

/-- D9 `RETI` (R369). -/
def exec_reti (s : State) : Result := .next ((returnFromInterrupt s).withCycles 16)

/-- C7 `RST 0x00` (R375). -/
def exec_rst_00 (s : State) : Result := .next (restart 0 s)

/-- CF `RST 0x08` (R375). -/
def exec_rst_08 (s : State) : Result := .next (restart 1 s)

/-- D7 `RST 0x10` (R375). -/
def exec_rst_10 (s : State) : Result := .next (restart 2 s)

/-- DF `RST 0x18` (R375). -/
def exec_rst_18 (s : State) : Result := .next (restart 3 s)

/-- E7 `RST 0x20` (R375). -/
def exec_rst_20 (s : State) : Result := .next (restart 4 s)

/-- EF `RST 0x28` (R375). -/
def exec_rst_28 (s : State) : Result := .next (restart 5 s)

/-- F7 `RST 0x30` (R375). -/
def exec_rst_30 (s : State) : Result := .next (restart 6 s)

/-- FF `RST 0x38` (R375). -/
def exec_rst_38 (s : State) : Result := .next (restart 7 s)

end Sys2Proof.Machine
end

