-- ==== Sys2Proof/Machine/Load16.lean ====
section
/-! DEFINITION. The 16-bit loads, PUSH and POP (spec/41_load16.md R240 to R246). -/

namespace Sys2Proof.Machine

/-- `LD rr,nn`: 12 cycles (R240). -/
def loadPair (p : Reg16) (nn : Word) (s : State) : State := (s.setPair p nn).withCycles 12

/-- `PUSH rr`: 16 cycles (R244). -/
def pushPair (p : StkPair) (s : State) : State := (push16 s (s.stkPair p)).withCycles 16

/-- `POP rr`: 12 cycles; POP AF drops the low nibble of F (R245, R246). -/
def popPair (p : StkPair) (s : State) : State := ((popState s).setStkPair p (popValue s)).withCycles 12

/-- `LD (nn),SP`: the low byte at nn, then the high byte at nn + 1; 20 cycles (R241). -/
def storeSP (nn : Word) (s : State) : State :=
  (memWrite (memWrite s nn (loByte s.cpu.sp)) (nn + 1) (hiByte s.cpu.sp)).withCycles 20

/-- `LD HL,SP+e`: 12 cycles (R243). -/
def loadHLFromSP (e : Byte) (s : State) : State :=
  ((s.setHL (s.cpu.sp + sext16 e)).setF (addSpFlags s.cpu.sp e)).withCycles 12

/-- 01 `LD BC,nn` (R240). -/
def exec_ld_bc_nn (nn : Word) (s : State) : Result := .next (loadPair .bc nn s)

/-- 11 `LD DE,nn` (R240). -/
def exec_ld_de_nn (nn : Word) (s : State) : Result := .next (loadPair .de nn s)

/-- 21 `LD HL,nn` (R240). -/
def exec_ld_hl_nn (nn : Word) (s : State) : Result := .next (loadPair .hl nn s)

/-- 31 `LD SP,nn` (R240). -/
def exec_ld_sp_nn (nn : Word) (s : State) : Result := .next (loadPair .sp nn s)

/-- 08 `LD (nn),SP` (R241). -/
def exec_ld_atNN_sp (nn : Word) (s : State) : Result := .next (storeSP nn s)

/-- F9 `LD SP,HL` (R242). -/
def exec_ld_sp_hl (s : State) : Result := .next ((s.setSP s.hl).withCycles 8)

/-- F8 `LD HL,SP+e` (R243). -/
def exec_ld_hl_sp_e (e : Byte) (s : State) : Result := .next (loadHLFromSP e s)

/-- C5 `PUSH BC` (R244). -/
def exec_push_bc (s : State) : Result := .next (pushPair .bc s)

/-- D5 `PUSH DE` (R244). -/
def exec_push_de (s : State) : Result := .next (pushPair .de s)

/-- E5 `PUSH HL` (R244). -/
def exec_push_hl (s : State) : Result := .next (pushPair .hl s)

/-- F5 `PUSH AF` (R244). -/
def exec_push_af (s : State) : Result := .next (pushPair .af s)

/-- C1 `POP BC` (R245). -/
def exec_pop_bc (s : State) : Result := .next (popPair .bc s)

/-- D1 `POP DE` (R245). -/
def exec_pop_de (s : State) : Result := .next (popPair .de s)

/-- E1 `POP HL` (R245). -/
def exec_pop_hl (s : State) : Result := .next (popPair .hl s)

/-- F1 `POP AF` (R246). -/
def exec_pop_af (s : State) : Result := .next (popPair .af s)

end Sys2Proof.Machine
end

