-- ==== Sys2Proof/Machine/Load8.lean ====
section
/-! DEFINITION. The 8-bit loads (spec/40_load8.md R200 to R218). No load writes a flag and none faults. The
shared operations stand first, then one meaning for each instruction. -/

namespace Sys2Proof.Machine

/-- `LD r,r'`: 4 cycles (R200). -/
def loadReg (dst src : Reg8) (s : State) : State := (s.setReg8 dst (s.reg8 src)).withCycles 4

/-- `LD r,n`: 8 cycles (R201). -/
def loadImm (dst : Reg8) (n : Byte) (s : State) : State := (s.setReg8 dst n).withCycles 8

/-- `LD r,(HL)`: 8 cycles; the address is read before the register is written (R202). -/
def loadFromHL (dst : Reg8) (s : State) : State := (s.setReg8 dst (memRead s s.hl)).withCycles 8

/-- `LD (HL),r`: 8 cycles (R203). -/
def storeToHL (src : Reg8) (s : State) : State := (memWrite s s.hl (s.reg8 src)).withCycles 8

/-- A load of A from an address (R205, R206, R209, R211, R213). -/
def loadA (addr : Word) (n : Nat) (s : State) : State := (s.setA (memRead s addr)).withCycles n

/-- A store of A to an address (R207, R208, R210, R212, R214). -/
def storeA (addr : Word) (n : Nat) (s : State) : State := (memWrite s addr s.cpu.a).withCycles n

/-- HL moved by one after the access at HL (R215 to R218); it wraps modulo 65536. -/
def thenMoveHL (delta : Word) (s : State) : State := s.setHL (s.hl + delta)

/-- 40 `LD B,B` (R200). -/
def exec_ld_b_b (s : State) : Result := .next (loadReg .b .b s)

/-- 41 `LD B,C` (R200). -/
def exec_ld_b_c (s : State) : Result := .next (loadReg .b .c s)

/-- 42 `LD B,D` (R200). -/
def exec_ld_b_d (s : State) : Result := .next (loadReg .b .d s)

/-- 43 `LD B,E` (R200). -/
def exec_ld_b_e (s : State) : Result := .next (loadReg .b .e s)

/-- 44 `LD B,H` (R200). -/
def exec_ld_b_h (s : State) : Result := .next (loadReg .b .h s)

/-- 45 `LD B,L` (R200). -/
def exec_ld_b_l (s : State) : Result := .next (loadReg .b .l s)

/-- 47 `LD B,A` (R200). -/
def exec_ld_b_a (s : State) : Result := .next (loadReg .b .a s)

/-- 48 `LD C,B` (R200). -/
def exec_ld_c_b (s : State) : Result := .next (loadReg .c .b s)

/-- 49 `LD C,C` (R200). -/
def exec_ld_c_c (s : State) : Result := .next (loadReg .c .c s)

/-- 4A `LD C,D` (R200). -/
def exec_ld_c_d (s : State) : Result := .next (loadReg .c .d s)

/-- 4B `LD C,E` (R200). -/
def exec_ld_c_e (s : State) : Result := .next (loadReg .c .e s)

/-- 4C `LD C,H` (R200). -/
def exec_ld_c_h (s : State) : Result := .next (loadReg .c .h s)

/-- 4D `LD C,L` (R200). -/
def exec_ld_c_l (s : State) : Result := .next (loadReg .c .l s)

/-- 4F `LD C,A` (R200). -/
def exec_ld_c_a (s : State) : Result := .next (loadReg .c .a s)

/-- 50 `LD D,B` (R200). -/
def exec_ld_d_b (s : State) : Result := .next (loadReg .d .b s)

/-- 51 `LD D,C` (R200). -/
def exec_ld_d_c (s : State) : Result := .next (loadReg .d .c s)

/-- 52 `LD D,D` (R200). -/
def exec_ld_d_d (s : State) : Result := .next (loadReg .d .d s)

/-- 53 `LD D,E` (R200). -/
def exec_ld_d_e (s : State) : Result := .next (loadReg .d .e s)

/-- 54 `LD D,H` (R200). -/
def exec_ld_d_h (s : State) : Result := .next (loadReg .d .h s)

/-- 55 `LD D,L` (R200). -/
def exec_ld_d_l (s : State) : Result := .next (loadReg .d .l s)

/-- 57 `LD D,A` (R200). -/
def exec_ld_d_a (s : State) : Result := .next (loadReg .d .a s)

/-- 58 `LD E,B` (R200). -/
def exec_ld_e_b (s : State) : Result := .next (loadReg .e .b s)

/-- 59 `LD E,C` (R200). -/
def exec_ld_e_c (s : State) : Result := .next (loadReg .e .c s)

/-- 5A `LD E,D` (R200). -/
def exec_ld_e_d (s : State) : Result := .next (loadReg .e .d s)

/-- 5B `LD E,E` (R200). -/
def exec_ld_e_e (s : State) : Result := .next (loadReg .e .e s)

/-- 5C `LD E,H` (R200). -/
def exec_ld_e_h (s : State) : Result := .next (loadReg .e .h s)

/-- 5D `LD E,L` (R200). -/
def exec_ld_e_l (s : State) : Result := .next (loadReg .e .l s)

/-- 5F `LD E,A` (R200). -/
def exec_ld_e_a (s : State) : Result := .next (loadReg .e .a s)

/-- 60 `LD H,B` (R200). -/
def exec_ld_h_b (s : State) : Result := .next (loadReg .h .b s)

/-- 61 `LD H,C` (R200). -/
def exec_ld_h_c (s : State) : Result := .next (loadReg .h .c s)

/-- 62 `LD H,D` (R200). -/
def exec_ld_h_d (s : State) : Result := .next (loadReg .h .d s)

/-- 63 `LD H,E` (R200). -/
def exec_ld_h_e (s : State) : Result := .next (loadReg .h .e s)

/-- 64 `LD H,H` (R200). -/
def exec_ld_h_h (s : State) : Result := .next (loadReg .h .h s)

/-- 65 `LD H,L` (R200). -/
def exec_ld_h_l (s : State) : Result := .next (loadReg .h .l s)

/-- 67 `LD H,A` (R200). -/
def exec_ld_h_a (s : State) : Result := .next (loadReg .h .a s)

/-- 68 `LD L,B` (R200). -/
def exec_ld_l_b (s : State) : Result := .next (loadReg .l .b s)

/-- 69 `LD L,C` (R200). -/
def exec_ld_l_c (s : State) : Result := .next (loadReg .l .c s)

/-- 6A `LD L,D` (R200). -/
def exec_ld_l_d (s : State) : Result := .next (loadReg .l .d s)

/-- 6B `LD L,E` (R200). -/
def exec_ld_l_e (s : State) : Result := .next (loadReg .l .e s)

/-- 6C `LD L,H` (R200). -/
def exec_ld_l_h (s : State) : Result := .next (loadReg .l .h s)

/-- 6D `LD L,L` (R200). -/
def exec_ld_l_l (s : State) : Result := .next (loadReg .l .l s)

/-- 6F `LD L,A` (R200). -/
def exec_ld_l_a (s : State) : Result := .next (loadReg .l .a s)

/-- 78 `LD A,B` (R200). -/
def exec_ld_a_b (s : State) : Result := .next (loadReg .a .b s)

/-- 79 `LD A,C` (R200). -/
def exec_ld_a_c (s : State) : Result := .next (loadReg .a .c s)

/-- 7A `LD A,D` (R200). -/
def exec_ld_a_d (s : State) : Result := .next (loadReg .a .d s)

/-- 7B `LD A,E` (R200). -/
def exec_ld_a_e (s : State) : Result := .next (loadReg .a .e s)

/-- 7C `LD A,H` (R200). -/
def exec_ld_a_h (s : State) : Result := .next (loadReg .a .h s)

/-- 7D `LD A,L` (R200). -/
def exec_ld_a_l (s : State) : Result := .next (loadReg .a .l s)

/-- 7F `LD A,A` (R200). -/
def exec_ld_a_a (s : State) : Result := .next (loadReg .a .a s)

/-- 06 `LD B,n` (R201). -/
def exec_ld_b_n (n : Byte) (s : State) : Result := .next (loadImm .b n s)

/-- 0E `LD C,n` (R201). -/
def exec_ld_c_n (n : Byte) (s : State) : Result := .next (loadImm .c n s)

/-- 16 `LD D,n` (R201). -/
def exec_ld_d_n (n : Byte) (s : State) : Result := .next (loadImm .d n s)

/-- 1E `LD E,n` (R201). -/
def exec_ld_e_n (n : Byte) (s : State) : Result := .next (loadImm .e n s)

/-- 26 `LD H,n` (R201). -/
def exec_ld_h_n (n : Byte) (s : State) : Result := .next (loadImm .h n s)

/-- 2E `LD L,n` (R201). -/
def exec_ld_l_n (n : Byte) (s : State) : Result := .next (loadImm .l n s)

/-- 3E `LD A,n` (R201). -/
def exec_ld_a_n (n : Byte) (s : State) : Result := .next (loadImm .a n s)

/-- 46 `LD B,(HL)` (R202). -/
def exec_ld_b_atHL (s : State) : Result := .next (loadFromHL .b s)

/-- 4E `LD C,(HL)` (R202). -/
def exec_ld_c_atHL (s : State) : Result := .next (loadFromHL .c s)

/-- 56 `LD D,(HL)` (R202). -/
def exec_ld_d_atHL (s : State) : Result := .next (loadFromHL .d s)

/-- 5E `LD E,(HL)` (R202). -/
def exec_ld_e_atHL (s : State) : Result := .next (loadFromHL .e s)

/-- 66 `LD H,(HL)` (R202). -/
def exec_ld_h_atHL (s : State) : Result := .next (loadFromHL .h s)

/-- 6E `LD L,(HL)` (R202). -/
def exec_ld_l_atHL (s : State) : Result := .next (loadFromHL .l s)

/-- 7E `LD A,(HL)` (R202). -/
def exec_ld_a_atHL (s : State) : Result := .next (loadFromHL .a s)

/-- 70 `LD (HL),B` (R203). -/
def exec_ld_atHL_b (s : State) : Result := .next (storeToHL .b s)

/-- 71 `LD (HL),C` (R203). -/
def exec_ld_atHL_c (s : State) : Result := .next (storeToHL .c s)

/-- 72 `LD (HL),D` (R203). -/
def exec_ld_atHL_d (s : State) : Result := .next (storeToHL .d s)

/-- 73 `LD (HL),E` (R203). -/
def exec_ld_atHL_e (s : State) : Result := .next (storeToHL .e s)

/-- 74 `LD (HL),H` (R203). -/
def exec_ld_atHL_h (s : State) : Result := .next (storeToHL .h s)

/-- 75 `LD (HL),L` (R203). -/
def exec_ld_atHL_l (s : State) : Result := .next (storeToHL .l s)

/-- 77 `LD (HL),A` (R203). -/
def exec_ld_atHL_a (s : State) : Result := .next (storeToHL .a s)

/-- 36 `LD (HL),n` (R204). -/
def exec_ld_atHL_n (n : Byte) (s : State) : Result := .next ((memWrite s s.hl n).withCycles 12)

/-- 0A `LD A,(BC)` (R205). -/
def exec_ld_a_atBC (s : State) : Result := .next (loadA s.bc 8 s)

/-- 1A `LD A,(DE)` (R206). -/
def exec_ld_a_atDE (s : State) : Result := .next (loadA s.de 8 s)

/-- 02 `LD (BC),A` (R207). -/
def exec_ld_atBC_a (s : State) : Result := .next (storeA s.bc 8 s)

/-- 12 `LD (DE),A` (R208). -/
def exec_ld_atDE_a (s : State) : Result := .next (storeA s.de 8 s)

/-- FA `LD A,(nn)` (R209). -/
def exec_ld_a_atNN (nn : Word) (s : State) : Result := .next (loadA nn 16 s)

/-- EA `LD (nn),A` (R210). -/
def exec_ld_atNN_a (nn : Word) (s : State) : Result := .next (storeA nn 16 s)

/-- F0 `LDH A,(n)` (R211). -/
def exec_ldh_a_atN (n : Byte) (s : State) : Result := .next (loadA (highPage n) 12 s)

/-- E0 `LDH (n),A` (R212). -/
def exec_ldh_atN_a (n : Byte) (s : State) : Result := .next (storeA (highPage n) 12 s)

/-- F2 `LD A,(C)` (R213). -/
def exec_ld_a_atC (s : State) : Result := .next (loadA (highPage s.cpu.c) 8 s)

/-- E2 `LD (C),A` (R214). -/
def exec_ld_atC_a (s : State) : Result := .next (storeA (highPage s.cpu.c) 8 s)

/-- 22 `LD (HL+),A` (R215). -/
def exec_ld_atHLinc_a (s : State) : Result := .next (thenMoveHL 1 (storeA s.hl 8 s))

/-- 2A `LD A,(HL+)` (R216). -/
def exec_ld_a_atHLinc (s : State) : Result := .next (thenMoveHL 1 (loadA s.hl 8 s))

/-- 32 `LD (HL-),A` (R217). -/
def exec_ld_atHLdec_a (s : State) : Result := .next (thenMoveHL (-1) (storeA s.hl 8 s))

/-- 3A `LD A,(HL-)` (R218). -/
def exec_ld_a_atHLdec (s : State) : Result := .next (thenMoveHL (-1) (loadA s.hl 8 s))

end Sys2Proof.Machine
end

