-- ==== Sys2Proof/Machine/Rotate.lean ====
section
/-! DEFINITION. Rotates, shifts, SWAP, BIT, RES and SET (spec/44_rotate_shift_bit.md R320 to R346), and the prefix 0xCB
(spec/46_system.md R385). -/

namespace Sys2Proof.Machine

/-- RLCA, RRCA, RLA, RRA: 4 cycles, Z = 0 (R320 to R323). -/
def rotateA (op : RotOp) (s : State) : State :=
  let x := rotA8 op s.cpu.a s.flagC
  ((s.setA x.r).setF x.flags).withCycles 4

/-- The cycles of a 0xCB instruction that writes its operand (R324). -/
def cbCycles : Operand8 → Nat
  | .reg _ => 8
  | .atHL => 16

/-- The cycles of BIT (R341, R342). -/
def bitCycles : Operand8 → Nat
  | .reg _ => 8
  | .atHL => 12

/-- A rotate, shift or SWAP of an `r8` operand: one read, one write, then F whole (R324 to R340). -/
def rotateOperand (op : RotOp) (o : Operand8) (s : State) : State :=
  let x := rot8 op (readOperand s o) s.flagC
  ((writeOperand s o x.r).setF x.flags).withCycles (cbCycles o)

/-- BIT: the operand is read and not written (R341, R342). -/
def testBit (n : Fin 8) (o : Operand8) (s : State) : State :=
  (s.setF (bitFlags (readOperand s o) n s.flagC)).withCycles (bitCycles o)

/-- RES: the bit is cleared and the operand written, also when the bit was already clear; no flag (R343, R344). -/
def resetBit (n : Fin 8) (o : Operand8) (s : State) : State :=
  (writeOperand s o (readOperand s o &&& ~~~bitMask n)).withCycles (cbCycles o)

/-- SET: the bit is set and the operand written; no flag (R345, R346). -/
def setBit (n : Fin 8) (o : Operand8) (s : State) : State :=
  (writeOperand s o (readOperand s o ||| bitMask n)).withCycles (cbCycles o)

/-- The operation of a second opcode byte behind 0xCB, by its fields x, y and z (spec/30_encoding.md R163, R171). -/
def cbOperation (op2 : Byte) (s : State) : State :=
  let y := op2.toNat / 8 % 8
  let o := operand8At (op2.toNat % 8)
  match op2.toNat / 64 with
  | 0 => rotateOperand (rotOpAt y) o s
  | 1 => testBit (bitNumber y) o s
  | 2 => resetBit (bitNumber y) o s
  | _ => setBit (bitNumber y) o s

/-- 07 `RLCA` (R320). -/
def exec_rlca (s : State) : Result := .next (rotateA .rlc s)

/-- 0F `RRCA` (R321). -/
def exec_rrca (s : State) : Result := .next (rotateA .rrc s)

/-- 17 `RLA` (R322). -/
def exec_rla (s : State) : Result := .next (rotateA .rl s)

/-- 1F `RRA` (R323). -/
def exec_rra (s : State) : Result := .next (rotateA .rr s)

/-- CB 00 `RLC B` (R325). -/
def exec_rlc_b (s : State) : Result := .next (rotateOperand .rlc (.reg .b) s)

/-- CB 01 `RLC C` (R325). -/
def exec_rlc_c (s : State) : Result := .next (rotateOperand .rlc (.reg .c) s)

/-- CB 02 `RLC D` (R325). -/
def exec_rlc_d (s : State) : Result := .next (rotateOperand .rlc (.reg .d) s)

/-- CB 03 `RLC E` (R325). -/
def exec_rlc_e (s : State) : Result := .next (rotateOperand .rlc (.reg .e) s)

/-- CB 04 `RLC H` (R325). -/
def exec_rlc_h (s : State) : Result := .next (rotateOperand .rlc (.reg .h) s)

/-- CB 05 `RLC L` (R325). -/
def exec_rlc_l (s : State) : Result := .next (rotateOperand .rlc (.reg .l) s)

/-- CB 07 `RLC A` (R325). -/
def exec_rlc_a (s : State) : Result := .next (rotateOperand .rlc (.reg .a) s)

/-- CB 06 `RLC (HL)` (R326). -/
def exec_rlc_atHL (s : State) : Result := .next (rotateOperand .rlc .atHL s)

/-- CB 08 `RRC B` (R327). -/
def exec_rrc_b (s : State) : Result := .next (rotateOperand .rrc (.reg .b) s)

/-- CB 09 `RRC C` (R327). -/
def exec_rrc_c (s : State) : Result := .next (rotateOperand .rrc (.reg .c) s)

/-- CB 0A `RRC D` (R327). -/
def exec_rrc_d (s : State) : Result := .next (rotateOperand .rrc (.reg .d) s)

/-- CB 0B `RRC E` (R327). -/
def exec_rrc_e (s : State) : Result := .next (rotateOperand .rrc (.reg .e) s)

/-- CB 0C `RRC H` (R327). -/
def exec_rrc_h (s : State) : Result := .next (rotateOperand .rrc (.reg .h) s)

/-- CB 0D `RRC L` (R327). -/
def exec_rrc_l (s : State) : Result := .next (rotateOperand .rrc (.reg .l) s)

/-- CB 0F `RRC A` (R327). -/
def exec_rrc_a (s : State) : Result := .next (rotateOperand .rrc (.reg .a) s)

/-- CB 0E `RRC (HL)` (R328). -/
def exec_rrc_atHL (s : State) : Result := .next (rotateOperand .rrc .atHL s)

/-- CB 10 `RL B` (R329). -/
def exec_rl_b (s : State) : Result := .next (rotateOperand .rl (.reg .b) s)

/-- CB 11 `RL C` (R329). -/
def exec_rl_c (s : State) : Result := .next (rotateOperand .rl (.reg .c) s)

/-- CB 12 `RL D` (R329). -/
def exec_rl_d (s : State) : Result := .next (rotateOperand .rl (.reg .d) s)

/-- CB 13 `RL E` (R329). -/
def exec_rl_e (s : State) : Result := .next (rotateOperand .rl (.reg .e) s)

/-- CB 14 `RL H` (R329). -/
def exec_rl_h (s : State) : Result := .next (rotateOperand .rl (.reg .h) s)

/-- CB 15 `RL L` (R329). -/
def exec_rl_l (s : State) : Result := .next (rotateOperand .rl (.reg .l) s)

/-- CB 17 `RL A` (R329). -/
def exec_rl_a (s : State) : Result := .next (rotateOperand .rl (.reg .a) s)

/-- CB 16 `RL (HL)` (R330). -/
def exec_rl_atHL (s : State) : Result := .next (rotateOperand .rl .atHL s)

/-- CB 18 `RR B` (R331). -/
def exec_rr_b (s : State) : Result := .next (rotateOperand .rr (.reg .b) s)

/-- CB 19 `RR C` (R331). -/
def exec_rr_c (s : State) : Result := .next (rotateOperand .rr (.reg .c) s)

/-- CB 1A `RR D` (R331). -/
def exec_rr_d (s : State) : Result := .next (rotateOperand .rr (.reg .d) s)

/-- CB 1B `RR E` (R331). -/
def exec_rr_e (s : State) : Result := .next (rotateOperand .rr (.reg .e) s)

/-- CB 1C `RR H` (R331). -/
def exec_rr_h (s : State) : Result := .next (rotateOperand .rr (.reg .h) s)

/-- CB 1D `RR L` (R331). -/
def exec_rr_l (s : State) : Result := .next (rotateOperand .rr (.reg .l) s)

/-- CB 1F `RR A` (R331). -/
def exec_rr_a (s : State) : Result := .next (rotateOperand .rr (.reg .a) s)

/-- CB 1E `RR (HL)` (R332). -/
def exec_rr_atHL (s : State) : Result := .next (rotateOperand .rr .atHL s)

/-- CB 20 `SLA B` (R333). -/
def exec_sla_b (s : State) : Result := .next (rotateOperand .sla (.reg .b) s)

/-- CB 21 `SLA C` (R333). -/
def exec_sla_c (s : State) : Result := .next (rotateOperand .sla (.reg .c) s)

/-- CB 22 `SLA D` (R333). -/
def exec_sla_d (s : State) : Result := .next (rotateOperand .sla (.reg .d) s)

/-- CB 23 `SLA E` (R333). -/
def exec_sla_e (s : State) : Result := .next (rotateOperand .sla (.reg .e) s)

/-- CB 24 `SLA H` (R333). -/
def exec_sla_h (s : State) : Result := .next (rotateOperand .sla (.reg .h) s)

/-- CB 25 `SLA L` (R333). -/
def exec_sla_l (s : State) : Result := .next (rotateOperand .sla (.reg .l) s)

/-- CB 27 `SLA A` (R333). -/
def exec_sla_a (s : State) : Result := .next (rotateOperand .sla (.reg .a) s)

/-- CB 26 `SLA (HL)` (R334). -/
def exec_sla_atHL (s : State) : Result := .next (rotateOperand .sla .atHL s)

/-- CB 28 `SRA B` (R335). -/
def exec_sra_b (s : State) : Result := .next (rotateOperand .sra (.reg .b) s)

/-- CB 29 `SRA C` (R335). -/
def exec_sra_c (s : State) : Result := .next (rotateOperand .sra (.reg .c) s)

/-- CB 2A `SRA D` (R335). -/
def exec_sra_d (s : State) : Result := .next (rotateOperand .sra (.reg .d) s)

/-- CB 2B `SRA E` (R335). -/
def exec_sra_e (s : State) : Result := .next (rotateOperand .sra (.reg .e) s)

/-- CB 2C `SRA H` (R335). -/
def exec_sra_h (s : State) : Result := .next (rotateOperand .sra (.reg .h) s)

/-- CB 2D `SRA L` (R335). -/
def exec_sra_l (s : State) : Result := .next (rotateOperand .sra (.reg .l) s)

/-- CB 2F `SRA A` (R335). -/
def exec_sra_a (s : State) : Result := .next (rotateOperand .sra (.reg .a) s)

/-- CB 2E `SRA (HL)` (R336). -/
def exec_sra_atHL (s : State) : Result := .next (rotateOperand .sra .atHL s)

/-- CB 30 `SWAP B` (R337). -/
def exec_swap_b (s : State) : Result := .next (rotateOperand .swap (.reg .b) s)

/-- CB 31 `SWAP C` (R337). -/
def exec_swap_c (s : State) : Result := .next (rotateOperand .swap (.reg .c) s)

/-- CB 32 `SWAP D` (R337). -/
def exec_swap_d (s : State) : Result := .next (rotateOperand .swap (.reg .d) s)

/-- CB 33 `SWAP E` (R337). -/
def exec_swap_e (s : State) : Result := .next (rotateOperand .swap (.reg .e) s)

/-- CB 34 `SWAP H` (R337). -/
def exec_swap_h (s : State) : Result := .next (rotateOperand .swap (.reg .h) s)

/-- CB 35 `SWAP L` (R337). -/
def exec_swap_l (s : State) : Result := .next (rotateOperand .swap (.reg .l) s)

/-- CB 37 `SWAP A` (R337). -/
def exec_swap_a (s : State) : Result := .next (rotateOperand .swap (.reg .a) s)

/-- CB 36 `SWAP (HL)` (R338). -/
def exec_swap_atHL (s : State) : Result := .next (rotateOperand .swap .atHL s)

/-- CB 38 `SRL B` (R339). -/
def exec_srl_b (s : State) : Result := .next (rotateOperand .srl (.reg .b) s)

/-- CB 39 `SRL C` (R339). -/
def exec_srl_c (s : State) : Result := .next (rotateOperand .srl (.reg .c) s)

/-- CB 3A `SRL D` (R339). -/
def exec_srl_d (s : State) : Result := .next (rotateOperand .srl (.reg .d) s)

/-- CB 3B `SRL E` (R339). -/
def exec_srl_e (s : State) : Result := .next (rotateOperand .srl (.reg .e) s)

/-- CB 3C `SRL H` (R339). -/
def exec_srl_h (s : State) : Result := .next (rotateOperand .srl (.reg .h) s)

/-- CB 3D `SRL L` (R339). -/
def exec_srl_l (s : State) : Result := .next (rotateOperand .srl (.reg .l) s)

/-- CB 3F `SRL A` (R339). -/
def exec_srl_a (s : State) : Result := .next (rotateOperand .srl (.reg .a) s)

/-- CB 3E `SRL (HL)` (R340). -/
def exec_srl_atHL (s : State) : Result := .next (rotateOperand .srl .atHL s)

/-- CB 40 `BIT 0,B` (R341). -/
def exec_bit_0_b (s : State) : Result := .next (testBit 0 (.reg .b) s)

/-- CB 41 `BIT 0,C` (R341). -/
def exec_bit_0_c (s : State) : Result := .next (testBit 0 (.reg .c) s)

/-- CB 42 `BIT 0,D` (R341). -/
def exec_bit_0_d (s : State) : Result := .next (testBit 0 (.reg .d) s)

/-- CB 43 `BIT 0,E` (R341). -/
def exec_bit_0_e (s : State) : Result := .next (testBit 0 (.reg .e) s)

/-- CB 44 `BIT 0,H` (R341). -/
def exec_bit_0_h (s : State) : Result := .next (testBit 0 (.reg .h) s)

/-- CB 45 `BIT 0,L` (R341). -/
def exec_bit_0_l (s : State) : Result := .next (testBit 0 (.reg .l) s)

/-- CB 47 `BIT 0,A` (R341). -/
def exec_bit_0_a (s : State) : Result := .next (testBit 0 (.reg .a) s)

/-- CB 46 `BIT 0,(HL)` (R342). -/
def exec_bit_0_atHL (s : State) : Result := .next (testBit 0 .atHL s)

/-- CB 48 `BIT 1,B` (R341). -/
def exec_bit_1_b (s : State) : Result := .next (testBit 1 (.reg .b) s)

/-- CB 49 `BIT 1,C` (R341). -/
def exec_bit_1_c (s : State) : Result := .next (testBit 1 (.reg .c) s)

/-- CB 4A `BIT 1,D` (R341). -/
def exec_bit_1_d (s : State) : Result := .next (testBit 1 (.reg .d) s)

/-- CB 4B `BIT 1,E` (R341). -/
def exec_bit_1_e (s : State) : Result := .next (testBit 1 (.reg .e) s)

/-- CB 4C `BIT 1,H` (R341). -/
def exec_bit_1_h (s : State) : Result := .next (testBit 1 (.reg .h) s)

/-- CB 4D `BIT 1,L` (R341). -/
def exec_bit_1_l (s : State) : Result := .next (testBit 1 (.reg .l) s)

/-- CB 4F `BIT 1,A` (R341). -/
def exec_bit_1_a (s : State) : Result := .next (testBit 1 (.reg .a) s)

/-- CB 4E `BIT 1,(HL)` (R342). -/
def exec_bit_1_atHL (s : State) : Result := .next (testBit 1 .atHL s)

/-- CB 50 `BIT 2,B` (R341). -/
def exec_bit_2_b (s : State) : Result := .next (testBit 2 (.reg .b) s)

/-- CB 51 `BIT 2,C` (R341). -/
def exec_bit_2_c (s : State) : Result := .next (testBit 2 (.reg .c) s)

/-- CB 52 `BIT 2,D` (R341). -/
def exec_bit_2_d (s : State) : Result := .next (testBit 2 (.reg .d) s)

/-- CB 53 `BIT 2,E` (R341). -/
def exec_bit_2_e (s : State) : Result := .next (testBit 2 (.reg .e) s)

/-- CB 54 `BIT 2,H` (R341). -/
def exec_bit_2_h (s : State) : Result := .next (testBit 2 (.reg .h) s)

/-- CB 55 `BIT 2,L` (R341). -/
def exec_bit_2_l (s : State) : Result := .next (testBit 2 (.reg .l) s)

/-- CB 57 `BIT 2,A` (R341). -/
def exec_bit_2_a (s : State) : Result := .next (testBit 2 (.reg .a) s)

/-- CB 56 `BIT 2,(HL)` (R342). -/
def exec_bit_2_atHL (s : State) : Result := .next (testBit 2 .atHL s)

/-- CB 58 `BIT 3,B` (R341). -/
def exec_bit_3_b (s : State) : Result := .next (testBit 3 (.reg .b) s)

/-- CB 59 `BIT 3,C` (R341). -/
def exec_bit_3_c (s : State) : Result := .next (testBit 3 (.reg .c) s)

/-- CB 5A `BIT 3,D` (R341). -/
def exec_bit_3_d (s : State) : Result := .next (testBit 3 (.reg .d) s)

/-- CB 5B `BIT 3,E` (R341). -/
def exec_bit_3_e (s : State) : Result := .next (testBit 3 (.reg .e) s)

/-- CB 5C `BIT 3,H` (R341). -/
def exec_bit_3_h (s : State) : Result := .next (testBit 3 (.reg .h) s)

/-- CB 5D `BIT 3,L` (R341). -/
def exec_bit_3_l (s : State) : Result := .next (testBit 3 (.reg .l) s)

/-- CB 5F `BIT 3,A` (R341). -/
def exec_bit_3_a (s : State) : Result := .next (testBit 3 (.reg .a) s)

/-- CB 5E `BIT 3,(HL)` (R342). -/
def exec_bit_3_atHL (s : State) : Result := .next (testBit 3 .atHL s)

/-- CB 60 `BIT 4,B` (R341). -/
def exec_bit_4_b (s : State) : Result := .next (testBit 4 (.reg .b) s)

/-- CB 61 `BIT 4,C` (R341). -/
def exec_bit_4_c (s : State) : Result := .next (testBit 4 (.reg .c) s)

/-- CB 62 `BIT 4,D` (R341). -/
def exec_bit_4_d (s : State) : Result := .next (testBit 4 (.reg .d) s)

/-- CB 63 `BIT 4,E` (R341). -/
def exec_bit_4_e (s : State) : Result := .next (testBit 4 (.reg .e) s)

/-- CB 64 `BIT 4,H` (R341). -/
def exec_bit_4_h (s : State) : Result := .next (testBit 4 (.reg .h) s)

/-- CB 65 `BIT 4,L` (R341). -/
def exec_bit_4_l (s : State) : Result := .next (testBit 4 (.reg .l) s)

/-- CB 67 `BIT 4,A` (R341). -/
def exec_bit_4_a (s : State) : Result := .next (testBit 4 (.reg .a) s)

/-- CB 66 `BIT 4,(HL)` (R342). -/
def exec_bit_4_atHL (s : State) : Result := .next (testBit 4 .atHL s)

/-- CB 68 `BIT 5,B` (R341). -/
def exec_bit_5_b (s : State) : Result := .next (testBit 5 (.reg .b) s)

/-- CB 69 `BIT 5,C` (R341). -/
def exec_bit_5_c (s : State) : Result := .next (testBit 5 (.reg .c) s)

/-- CB 6A `BIT 5,D` (R341). -/
def exec_bit_5_d (s : State) : Result := .next (testBit 5 (.reg .d) s)

/-- CB 6B `BIT 5,E` (R341). -/
def exec_bit_5_e (s : State) : Result := .next (testBit 5 (.reg .e) s)

/-- CB 6C `BIT 5,H` (R341). -/
def exec_bit_5_h (s : State) : Result := .next (testBit 5 (.reg .h) s)

/-- CB 6D `BIT 5,L` (R341). -/
def exec_bit_5_l (s : State) : Result := .next (testBit 5 (.reg .l) s)

/-- CB 6F `BIT 5,A` (R341). -/
def exec_bit_5_a (s : State) : Result := .next (testBit 5 (.reg .a) s)

/-- CB 6E `BIT 5,(HL)` (R342). -/
def exec_bit_5_atHL (s : State) : Result := .next (testBit 5 .atHL s)

/-- CB 70 `BIT 6,B` (R341). -/
def exec_bit_6_b (s : State) : Result := .next (testBit 6 (.reg .b) s)

/-- CB 71 `BIT 6,C` (R341). -/
def exec_bit_6_c (s : State) : Result := .next (testBit 6 (.reg .c) s)

/-- CB 72 `BIT 6,D` (R341). -/
def exec_bit_6_d (s : State) : Result := .next (testBit 6 (.reg .d) s)

/-- CB 73 `BIT 6,E` (R341). -/
def exec_bit_6_e (s : State) : Result := .next (testBit 6 (.reg .e) s)

/-- CB 74 `BIT 6,H` (R341). -/
def exec_bit_6_h (s : State) : Result := .next (testBit 6 (.reg .h) s)

/-- CB 75 `BIT 6,L` (R341). -/
def exec_bit_6_l (s : State) : Result := .next (testBit 6 (.reg .l) s)

/-- CB 77 `BIT 6,A` (R341). -/
def exec_bit_6_a (s : State) : Result := .next (testBit 6 (.reg .a) s)

/-- CB 76 `BIT 6,(HL)` (R342). -/
def exec_bit_6_atHL (s : State) : Result := .next (testBit 6 .atHL s)

/-- CB 78 `BIT 7,B` (R341). -/
def exec_bit_7_b (s : State) : Result := .next (testBit 7 (.reg .b) s)

/-- CB 79 `BIT 7,C` (R341). -/
def exec_bit_7_c (s : State) : Result := .next (testBit 7 (.reg .c) s)

/-- CB 7A `BIT 7,D` (R341). -/
def exec_bit_7_d (s : State) : Result := .next (testBit 7 (.reg .d) s)

/-- CB 7B `BIT 7,E` (R341). -/
def exec_bit_7_e (s : State) : Result := .next (testBit 7 (.reg .e) s)

/-- CB 7C `BIT 7,H` (R341). -/
def exec_bit_7_h (s : State) : Result := .next (testBit 7 (.reg .h) s)

/-- CB 7D `BIT 7,L` (R341). -/
def exec_bit_7_l (s : State) : Result := .next (testBit 7 (.reg .l) s)

/-- CB 7F `BIT 7,A` (R341). -/
def exec_bit_7_a (s : State) : Result := .next (testBit 7 (.reg .a) s)

/-- CB 7E `BIT 7,(HL)` (R342). -/
def exec_bit_7_atHL (s : State) : Result := .next (testBit 7 .atHL s)

/-- CB 80 `RES 0,B` (R343). -/
def exec_res_0_b (s : State) : Result := .next (resetBit 0 (.reg .b) s)

/-- CB 81 `RES 0,C` (R343). -/
def exec_res_0_c (s : State) : Result := .next (resetBit 0 (.reg .c) s)

/-- CB 82 `RES 0,D` (R343). -/
def exec_res_0_d (s : State) : Result := .next (resetBit 0 (.reg .d) s)

/-- CB 83 `RES 0,E` (R343). -/
def exec_res_0_e (s : State) : Result := .next (resetBit 0 (.reg .e) s)

/-- CB 84 `RES 0,H` (R343). -/
def exec_res_0_h (s : State) : Result := .next (resetBit 0 (.reg .h) s)

/-- CB 85 `RES 0,L` (R343). -/
def exec_res_0_l (s : State) : Result := .next (resetBit 0 (.reg .l) s)

/-- CB 87 `RES 0,A` (R343). -/
def exec_res_0_a (s : State) : Result := .next (resetBit 0 (.reg .a) s)

/-- CB 86 `RES 0,(HL)` (R344). -/
def exec_res_0_atHL (s : State) : Result := .next (resetBit 0 .atHL s)

/-- CB 88 `RES 1,B` (R343). -/
def exec_res_1_b (s : State) : Result := .next (resetBit 1 (.reg .b) s)

/-- CB 89 `RES 1,C` (R343). -/
def exec_res_1_c (s : State) : Result := .next (resetBit 1 (.reg .c) s)

/-- CB 8A `RES 1,D` (R343). -/
def exec_res_1_d (s : State) : Result := .next (resetBit 1 (.reg .d) s)

/-- CB 8B `RES 1,E` (R343). -/
def exec_res_1_e (s : State) : Result := .next (resetBit 1 (.reg .e) s)

/-- CB 8C `RES 1,H` (R343). -/
def exec_res_1_h (s : State) : Result := .next (resetBit 1 (.reg .h) s)

/-- CB 8D `RES 1,L` (R343). -/
def exec_res_1_l (s : State) : Result := .next (resetBit 1 (.reg .l) s)

/-- CB 8F `RES 1,A` (R343). -/
def exec_res_1_a (s : State) : Result := .next (resetBit 1 (.reg .a) s)

/-- CB 8E `RES 1,(HL)` (R344). -/
def exec_res_1_atHL (s : State) : Result := .next (resetBit 1 .atHL s)

/-- CB 90 `RES 2,B` (R343). -/
def exec_res_2_b (s : State) : Result := .next (resetBit 2 (.reg .b) s)

/-- CB 91 `RES 2,C` (R343). -/
def exec_res_2_c (s : State) : Result := .next (resetBit 2 (.reg .c) s)

/-- CB 92 `RES 2,D` (R343). -/
def exec_res_2_d (s : State) : Result := .next (resetBit 2 (.reg .d) s)

/-- CB 93 `RES 2,E` (R343). -/
def exec_res_2_e (s : State) : Result := .next (resetBit 2 (.reg .e) s)

/-- CB 94 `RES 2,H` (R343). -/
def exec_res_2_h (s : State) : Result := .next (resetBit 2 (.reg .h) s)

/-- CB 95 `RES 2,L` (R343). -/
def exec_res_2_l (s : State) : Result := .next (resetBit 2 (.reg .l) s)

/-- CB 97 `RES 2,A` (R343). -/
def exec_res_2_a (s : State) : Result := .next (resetBit 2 (.reg .a) s)

/-- CB 96 `RES 2,(HL)` (R344). -/
def exec_res_2_atHL (s : State) : Result := .next (resetBit 2 .atHL s)

/-- CB 98 `RES 3,B` (R343). -/
def exec_res_3_b (s : State) : Result := .next (resetBit 3 (.reg .b) s)

/-- CB 99 `RES 3,C` (R343). -/
def exec_res_3_c (s : State) : Result := .next (resetBit 3 (.reg .c) s)

/-- CB 9A `RES 3,D` (R343). -/
def exec_res_3_d (s : State) : Result := .next (resetBit 3 (.reg .d) s)

/-- CB 9B `RES 3,E` (R343). -/
def exec_res_3_e (s : State) : Result := .next (resetBit 3 (.reg .e) s)

/-- CB 9C `RES 3,H` (R343). -/
def exec_res_3_h (s : State) : Result := .next (resetBit 3 (.reg .h) s)

/-- CB 9D `RES 3,L` (R343). -/
def exec_res_3_l (s : State) : Result := .next (resetBit 3 (.reg .l) s)

/-- CB 9F `RES 3,A` (R343). -/
def exec_res_3_a (s : State) : Result := .next (resetBit 3 (.reg .a) s)

/-- CB 9E `RES 3,(HL)` (R344). -/
def exec_res_3_atHL (s : State) : Result := .next (resetBit 3 .atHL s)

/-- CB A0 `RES 4,B` (R343). -/
def exec_res_4_b (s : State) : Result := .next (resetBit 4 (.reg .b) s)

/-- CB A1 `RES 4,C` (R343). -/
def exec_res_4_c (s : State) : Result := .next (resetBit 4 (.reg .c) s)

/-- CB A2 `RES 4,D` (R343). -/
def exec_res_4_d (s : State) : Result := .next (resetBit 4 (.reg .d) s)

/-- CB A3 `RES 4,E` (R343). -/
def exec_res_4_e (s : State) : Result := .next (resetBit 4 (.reg .e) s)

/-- CB A4 `RES 4,H` (R343). -/
def exec_res_4_h (s : State) : Result := .next (resetBit 4 (.reg .h) s)

/-- CB A5 `RES 4,L` (R343). -/
def exec_res_4_l (s : State) : Result := .next (resetBit 4 (.reg .l) s)

/-- CB A7 `RES 4,A` (R343). -/
def exec_res_4_a (s : State) : Result := .next (resetBit 4 (.reg .a) s)

/-- CB A6 `RES 4,(HL)` (R344). -/
def exec_res_4_atHL (s : State) : Result := .next (resetBit 4 .atHL s)

/-- CB A8 `RES 5,B` (R343). -/
def exec_res_5_b (s : State) : Result := .next (resetBit 5 (.reg .b) s)

/-- CB A9 `RES 5,C` (R343). -/
def exec_res_5_c (s : State) : Result := .next (resetBit 5 (.reg .c) s)

/-- CB AA `RES 5,D` (R343). -/
def exec_res_5_d (s : State) : Result := .next (resetBit 5 (.reg .d) s)

/-- CB AB `RES 5,E` (R343). -/
def exec_res_5_e (s : State) : Result := .next (resetBit 5 (.reg .e) s)

/-- CB AC `RES 5,H` (R343). -/
def exec_res_5_h (s : State) : Result := .next (resetBit 5 (.reg .h) s)

/-- CB AD `RES 5,L` (R343). -/
def exec_res_5_l (s : State) : Result := .next (resetBit 5 (.reg .l) s)

/-- CB AF `RES 5,A` (R343). -/
def exec_res_5_a (s : State) : Result := .next (resetBit 5 (.reg .a) s)

/-- CB AE `RES 5,(HL)` (R344). -/
def exec_res_5_atHL (s : State) : Result := .next (resetBit 5 .atHL s)

/-- CB B0 `RES 6,B` (R343). -/
def exec_res_6_b (s : State) : Result := .next (resetBit 6 (.reg .b) s)

/-- CB B1 `RES 6,C` (R343). -/
def exec_res_6_c (s : State) : Result := .next (resetBit 6 (.reg .c) s)

/-- CB B2 `RES 6,D` (R343). -/
def exec_res_6_d (s : State) : Result := .next (resetBit 6 (.reg .d) s)

/-- CB B3 `RES 6,E` (R343). -/
def exec_res_6_e (s : State) : Result := .next (resetBit 6 (.reg .e) s)

/-- CB B4 `RES 6,H` (R343). -/
def exec_res_6_h (s : State) : Result := .next (resetBit 6 (.reg .h) s)

/-- CB B5 `RES 6,L` (R343). -/
def exec_res_6_l (s : State) : Result := .next (resetBit 6 (.reg .l) s)

/-- CB B7 `RES 6,A` (R343). -/
def exec_res_6_a (s : State) : Result := .next (resetBit 6 (.reg .a) s)

/-- CB B6 `RES 6,(HL)` (R344). -/
def exec_res_6_atHL (s : State) : Result := .next (resetBit 6 .atHL s)

/-- CB B8 `RES 7,B` (R343). -/
def exec_res_7_b (s : State) : Result := .next (resetBit 7 (.reg .b) s)

/-- CB B9 `RES 7,C` (R343). -/
def exec_res_7_c (s : State) : Result := .next (resetBit 7 (.reg .c) s)

/-- CB BA `RES 7,D` (R343). -/
def exec_res_7_d (s : State) : Result := .next (resetBit 7 (.reg .d) s)

/-- CB BB `RES 7,E` (R343). -/
def exec_res_7_e (s : State) : Result := .next (resetBit 7 (.reg .e) s)

/-- CB BC `RES 7,H` (R343). -/
def exec_res_7_h (s : State) : Result := .next (resetBit 7 (.reg .h) s)

/-- CB BD `RES 7,L` (R343). -/
def exec_res_7_l (s : State) : Result := .next (resetBit 7 (.reg .l) s)

/-- CB BF `RES 7,A` (R343). -/
def exec_res_7_a (s : State) : Result := .next (resetBit 7 (.reg .a) s)

/-- CB BE `RES 7,(HL)` (R344). -/
def exec_res_7_atHL (s : State) : Result := .next (resetBit 7 .atHL s)

/-- CB C0 `SET 0,B` (R345). -/
def exec_set_0_b (s : State) : Result := .next (setBit 0 (.reg .b) s)

/-- CB C1 `SET 0,C` (R345). -/
def exec_set_0_c (s : State) : Result := .next (setBit 0 (.reg .c) s)

/-- CB C2 `SET 0,D` (R345). -/
def exec_set_0_d (s : State) : Result := .next (setBit 0 (.reg .d) s)

/-- CB C3 `SET 0,E` (R345). -/
def exec_set_0_e (s : State) : Result := .next (setBit 0 (.reg .e) s)

/-- CB C4 `SET 0,H` (R345). -/
def exec_set_0_h (s : State) : Result := .next (setBit 0 (.reg .h) s)

/-- CB C5 `SET 0,L` (R345). -/
def exec_set_0_l (s : State) : Result := .next (setBit 0 (.reg .l) s)

/-- CB C7 `SET 0,A` (R345). -/
def exec_set_0_a (s : State) : Result := .next (setBit 0 (.reg .a) s)

/-- CB C6 `SET 0,(HL)` (R346). -/
def exec_set_0_atHL (s : State) : Result := .next (setBit 0 .atHL s)

/-- CB C8 `SET 1,B` (R345). -/
def exec_set_1_b (s : State) : Result := .next (setBit 1 (.reg .b) s)

/-- CB C9 `SET 1,C` (R345). -/
def exec_set_1_c (s : State) : Result := .next (setBit 1 (.reg .c) s)

/-- CB CA `SET 1,D` (R345). -/
def exec_set_1_d (s : State) : Result := .next (setBit 1 (.reg .d) s)

/-- CB CB `SET 1,E` (R345). -/
def exec_set_1_e (s : State) : Result := .next (setBit 1 (.reg .e) s)

/-- CB CC `SET 1,H` (R345). -/
def exec_set_1_h (s : State) : Result := .next (setBit 1 (.reg .h) s)

/-- CB CD `SET 1,L` (R345). -/
def exec_set_1_l (s : State) : Result := .next (setBit 1 (.reg .l) s)

/-- CB CF `SET 1,A` (R345). -/
def exec_set_1_a (s : State) : Result := .next (setBit 1 (.reg .a) s)

/-- CB CE `SET 1,(HL)` (R346). -/
def exec_set_1_atHL (s : State) : Result := .next (setBit 1 .atHL s)

/-- CB D0 `SET 2,B` (R345). -/
def exec_set_2_b (s : State) : Result := .next (setBit 2 (.reg .b) s)

/-- CB D1 `SET 2,C` (R345). -/
def exec_set_2_c (s : State) : Result := .next (setBit 2 (.reg .c) s)

/-- CB D2 `SET 2,D` (R345). -/
def exec_set_2_d (s : State) : Result := .next (setBit 2 (.reg .d) s)

/-- CB D3 `SET 2,E` (R345). -/
def exec_set_2_e (s : State) : Result := .next (setBit 2 (.reg .e) s)

/-- CB D4 `SET 2,H` (R345). -/
def exec_set_2_h (s : State) : Result := .next (setBit 2 (.reg .h) s)

/-- CB D5 `SET 2,L` (R345). -/
def exec_set_2_l (s : State) : Result := .next (setBit 2 (.reg .l) s)

/-- CB D7 `SET 2,A` (R345). -/
def exec_set_2_a (s : State) : Result := .next (setBit 2 (.reg .a) s)

/-- CB D6 `SET 2,(HL)` (R346). -/
def exec_set_2_atHL (s : State) : Result := .next (setBit 2 .atHL s)

/-- CB D8 `SET 3,B` (R345). -/
def exec_set_3_b (s : State) : Result := .next (setBit 3 (.reg .b) s)

/-- CB D9 `SET 3,C` (R345). -/
def exec_set_3_c (s : State) : Result := .next (setBit 3 (.reg .c) s)

/-- CB DA `SET 3,D` (R345). -/
def exec_set_3_d (s : State) : Result := .next (setBit 3 (.reg .d) s)

/-- CB DB `SET 3,E` (R345). -/
def exec_set_3_e (s : State) : Result := .next (setBit 3 (.reg .e) s)

/-- CB DC `SET 3,H` (R345). -/
def exec_set_3_h (s : State) : Result := .next (setBit 3 (.reg .h) s)

/-- CB DD `SET 3,L` (R345). -/
def exec_set_3_l (s : State) : Result := .next (setBit 3 (.reg .l) s)

/-- CB DF `SET 3,A` (R345). -/
def exec_set_3_a (s : State) : Result := .next (setBit 3 (.reg .a) s)

/-- CB DE `SET 3,(HL)` (R346). -/
def exec_set_3_atHL (s : State) : Result := .next (setBit 3 .atHL s)

/-- CB E0 `SET 4,B` (R345). -/
def exec_set_4_b (s : State) : Result := .next (setBit 4 (.reg .b) s)

/-- CB E1 `SET 4,C` (R345). -/
def exec_set_4_c (s : State) : Result := .next (setBit 4 (.reg .c) s)

/-- CB E2 `SET 4,D` (R345). -/
def exec_set_4_d (s : State) : Result := .next (setBit 4 (.reg .d) s)

/-- CB E3 `SET 4,E` (R345). -/
def exec_set_4_e (s : State) : Result := .next (setBit 4 (.reg .e) s)

/-- CB E4 `SET 4,H` (R345). -/
def exec_set_4_h (s : State) : Result := .next (setBit 4 (.reg .h) s)

/-- CB E5 `SET 4,L` (R345). -/
def exec_set_4_l (s : State) : Result := .next (setBit 4 (.reg .l) s)

/-- CB E7 `SET 4,A` (R345). -/
def exec_set_4_a (s : State) : Result := .next (setBit 4 (.reg .a) s)

/-- CB E6 `SET 4,(HL)` (R346). -/
def exec_set_4_atHL (s : State) : Result := .next (setBit 4 .atHL s)

/-- CB E8 `SET 5,B` (R345). -/
def exec_set_5_b (s : State) : Result := .next (setBit 5 (.reg .b) s)

/-- CB E9 `SET 5,C` (R345). -/
def exec_set_5_c (s : State) : Result := .next (setBit 5 (.reg .c) s)

/-- CB EA `SET 5,D` (R345). -/
def exec_set_5_d (s : State) : Result := .next (setBit 5 (.reg .d) s)

/-- CB EB `SET 5,E` (R345). -/
def exec_set_5_e (s : State) : Result := .next (setBit 5 (.reg .e) s)

/-- CB EC `SET 5,H` (R345). -/
def exec_set_5_h (s : State) : Result := .next (setBit 5 (.reg .h) s)

/-- CB ED `SET 5,L` (R345). -/
def exec_set_5_l (s : State) : Result := .next (setBit 5 (.reg .l) s)

/-- CB EF `SET 5,A` (R345). -/
def exec_set_5_a (s : State) : Result := .next (setBit 5 (.reg .a) s)

/-- CB EE `SET 5,(HL)` (R346). -/
def exec_set_5_atHL (s : State) : Result := .next (setBit 5 .atHL s)

/-- CB F0 `SET 6,B` (R345). -/
def exec_set_6_b (s : State) : Result := .next (setBit 6 (.reg .b) s)

/-- CB F1 `SET 6,C` (R345). -/
def exec_set_6_c (s : State) : Result := .next (setBit 6 (.reg .c) s)

/-- CB F2 `SET 6,D` (R345). -/
def exec_set_6_d (s : State) : Result := .next (setBit 6 (.reg .d) s)

/-- CB F3 `SET 6,E` (R345). -/
def exec_set_6_e (s : State) : Result := .next (setBit 6 (.reg .e) s)

/-- CB F4 `SET 6,H` (R345). -/
def exec_set_6_h (s : State) : Result := .next (setBit 6 (.reg .h) s)

/-- CB F5 `SET 6,L` (R345). -/
def exec_set_6_l (s : State) : Result := .next (setBit 6 (.reg .l) s)

/-- CB F7 `SET 6,A` (R345). -/
def exec_set_6_a (s : State) : Result := .next (setBit 6 (.reg .a) s)

/-- CB F6 `SET 6,(HL)` (R346). -/
def exec_set_6_atHL (s : State) : Result := .next (setBit 6 .atHL s)

/-- CB F8 `SET 7,B` (R345). -/
def exec_set_7_b (s : State) : Result := .next (setBit 7 (.reg .b) s)

/-- CB F9 `SET 7,C` (R345). -/
def exec_set_7_c (s : State) : Result := .next (setBit 7 (.reg .c) s)

/-- CB FA `SET 7,D` (R345). -/
def exec_set_7_d (s : State) : Result := .next (setBit 7 (.reg .d) s)

/-- CB FB `SET 7,E` (R345). -/
def exec_set_7_e (s : State) : Result := .next (setBit 7 (.reg .e) s)

/-- CB FC `SET 7,H` (R345). -/
def exec_set_7_h (s : State) : Result := .next (setBit 7 (.reg .h) s)

/-- CB FD `SET 7,L` (R345). -/
def exec_set_7_l (s : State) : Result := .next (setBit 7 (.reg .l) s)

/-- CB FF `SET 7,A` (R345). -/
def exec_set_7_a (s : State) : Result := .next (setBit 7 (.reg .a) s)

/-- CB FE `SET 7,(HL)` (R346). -/
def exec_set_7_atHL (s : State) : Result := .next (setBit 7 .atHL s)

/-- CB: the prefix with its second byte has the effect of the instruction that byte selects (R385, log entry 6). -/
def exec_prefix_cb (op2 : Byte) (s : State) : Result := .next (cbOperation op2 s)

end Sys2Proof.Machine
end

