-- ==== Sys2Proof/Machine/System.lean ====
section
/-! DEFINITION. NOP, HALT, STOP, DI, EI and the undefined opcodes (spec/46_system.md R380 to R386). How the control state
they write drives the next boundary is in Machine/CpuStep.lean. -/

namespace Sys2Proof.Machine

/-- 00 `NOP` (R380). -/
def exec_nop (s : State) : Result := .next (s.withCycles 4)

/-- 76 `HALT` (R381). -/
def exec_halt (s : State) : Result := .next ((s.setRun .halted).withCycles 4)

/-- 10 `STOP` (R382): the second byte is fetched and not checked. -/
def exec_stop (_b : Byte) (s : State) : Result := .next ((s.setRun .stopped).withCycles 4)

/-- F3 `DI` (R383). The promotion of a pending EI is cancelled in `promoteIme`. -/
def exec_di (s : State) : Result := .next (((s.setIme false).setImePending false).withCycles 4)

/-- FB `EI` (R384): IME itself is not changed. -/
def exec_ei (s : State) : Result := .next ((s.setImePending true).withCycles 4)

/-- D3 DB DD E3 E4 EB EC ED F4 FC FD: an undefined opcode raises the fault (R386). -/
def exec_illegal (u : UndefinedOpcode) (s : State) : Result := raiseUnknownOpcode u.toByte s

end Sys2Proof.Machine
end

