-- ==== Sys2Proof/Machine/HostInterface.lean ====
section
/-! DEFINITION. What the host does to the machine and sees of it (spec/60_exceptions.md R461, R490, R491), and
construction from a ROM image (spec/20_memory.md R130 to R134). -/

namespace Sys2Proof.Machine

/-- `SetButtons(b)` (R461): a visible line that goes from 1 to 0 requests JOYPAD, and a nonempty set ends STOP. -/
def setButtons (b : Buttons) (s : State) : State :=
  let s1 := { s with joy := { s.joy with pressed := b } }
  let s2 := if s.joy.nibble &&& ~~~s1.joy.nibble ≠ 0 then requestInterrupt 4 s1 else s1
  if s.cpu.run = .stopped ∧ anyPressed b then s2.setRun .running else s2

/-- `poll_input()` at the next presented frame: the oldest queued set, or the free value of this frame (R6, R490, D29). Log
entry 1. -/
def pollInput (s : State) : Buttons := s.inputs.headD (Config.hostButtons s.frames)

/-- The end of a tick in which a frame is ready (R400): the flag is cleared, the frame counts as presented, and the host's
next button set is taken. -/
def presentFrame (s : State) : State :=
  if s.ppu.frameReady then
    setButtons (pollInput s)
      { s with ppu := { s.ppu with frameReady := false }, frames := s.frames + 1, inputs := s.inputs.tail }
  else s

/-- The quit test at the end of a tick (R400, R491). -/
def quitTest (s : State) : State := if s.quitRequested then { s with ended := true } else s

/-- `request_quit()` (R490): "sets the quit flag, checked at the next boundary". -/
def requestQuit (s : State) : State := { s with quitRequested := true }

/-- The host queues a button set for a later frame (R490). -/
def queueInput (b : Buttons) (s : State) : State := { s with inputs := s.inputs ++ [b] }

/-- The external RAM view of R490: the bytes of ext_ram. -/
def extRamView (s : State) : List Byte := (List.range s.cart.ramBytes).map s.extRam.read

/-! ## Construction -/

/-- Why `new(rom_bytes)` fails with `InvalidHeader` (R134). Log entry 19. -/
inductive InvalidHeader where
  /-- The image is shorter than 0x0150 bytes. -/
  | romTooShort
  /-- A title byte is 0x80 or above. -/
  | titleNotAscii
  /-- The header checksum differs. -/
  | checksumMismatch
  /-- The cartridge type is none of 00, 01, 02, 03, 08, 09 (R131). -/
  | unsupportedType
  /-- The ROM-size code is above 8 (R132). -/
  | badRomSize
  /-- The RAM-size code is above 3 (R133). -/
  | badRamSize
  deriving DecidableEq, Repr

/-- `mbc_kind` by the byte at 0x0147 (R131). -/
def mbcKindOf (t : Byte) : Option MbcKind :=
  if t = 0x00 ∨ t = 0x08 ∨ t = 0x09 then some .noMbc
  else if t = 0x01 ∨ t = 0x02 ∨ t = 0x03 then some .mbc1
  else none

/-- `rom_banks` by the byte at 0x0148: `2 << n` for n in 0 to 8 (R132). -/
def romBanksOf (n : Byte) : Option Nat := if n.toNat ≤ 8 then some (2 * 2 ^ n.toNat) else none

/-- `ram_bytes` by the byte at 0x0149 (R133). -/
def ramBytesOf (n : Byte) : Option Nat :=
  match n.toNat with
  | 0 => some 0
  | 1 => some 2048
  | 2 => some 8192
  | 3 => some 32768
  | _ => none

/-- The checksum over 0x0134 to 0x014C: `x <- (x - rom[a] - 1) & 0xFF` (R134). -/
def headerChecksum (image : List Byte) : Byte :=
  ((image.drop 0x134).take 25).foldl (fun x v => x - v - 1) 0

/-- Some byte of the title field 0x0134 to 0x0143 is 0x80 or above (R134). -/
def titleNotAscii (image : List Byte) : Bool := ((image.drop 0x134).take 16).any fun v => v.getLsbD 7

/-- `new(rom_bytes)` (R134, R520): the header check, then the reset state with the image in the slot. -/
def construct (image : List Byte) : Except InvalidHeader State :=
  if image.length < 0x150 then .error .romTooShort
  else if titleNotAscii image then .error .titleNotAscii
  else if headerChecksum image ≠ image.getD 0x14D 0 then .error .checksumMismatch
  else
    match mbcKindOf (image.getD 0x147 0), romBanksOf (image.getD 0x148 0), ramBytesOf (image.getD 0x149 0) with
    | none, _, _ => .error .unsupportedType
    | some _, none, _ => .error .badRomSize
    | some _, some _, none => .error .badRamSize
    | some kind, some banks, some ram =>
      .ok (State.resetWith
        { rom := Memory.ofBytes image, romSize := image.length, kind := kind, romBanks := banks, ramBytes := ram })

end Sys2Proof.Machine
end

