-- ==== Sys2Proof/Machine/Compositor.lean ====
section
/-! DEFINITION. The compositor (spec/60_exceptions.md R480 to R486). A line is computed pixel by pixel: the pixel of
column x depends on the registers, VRAM and OAM and on nothing another column draws, so drawing the layers one after
another over the line (as the spec writes it) and drawing all layers of one column before the next give the same
line. Log entry 15. -/

namespace Sys2Proof.Machine

/-- A colour index or a shade, 0 to 3. -/
abbrev Shade := BitVec 2

/-- `Shade(pal, i)`: `(pal >> (2 × i)) & 3` (R481). -/
def shadeOf (pal : Byte) (i : Shade) : Shade := (pal >>> (2 * i.toNat)).setWidth 2

/-- A VRAM byte by its address; the PPU reads VRAM directly (R480). -/
def vramAt (s : State) (addr : Word) : Byte := s.vram.read (addr.toNat - 0x8000)

/-- `TilePixel(a, col)`: column `col` of the tile row whose first byte is at `addr` (R486). -/
def tilePixel (s : State) (addr : Word) (col : Nat) : Shade :=
  BitVec.ofBool ((vramAt s (addr + 1)).getLsbD (7 - col)) ++ BitVec.ofBool ((vramAt s addr).getLsbD (7 - col))

/-- `TileRowAddr(id, r)` (R486): unsigned ids from 0x8000, or signed ids from 0x9000, by LCDC[4]. -/
def tileRowAddr (s : State) (id : Byte) (r : Nat) : Word :=
  if s.ppu.lcdc.getLsbD 4 then 0x8000 + id.setWidth 16 * 16 + BitVec.ofNat 16 (2 * r)
  else 0x9000 + id.signExtend 16 * 16 + BitVec.ofNat 16 (2 * r)

/-- The tile id at a column and row of a 32 by 32 tile map (R486). -/
def tileIdAt (s : State) (base : Word) (row col : Nat) : Byte := vramAt s (base + BitVec.ofNat 16 (32 * row + col))

/-- The background's colour index at screen column x (R482). -/
def backgroundIndex (s : State) (x : Nat) : Shade :=
  let base : Word := if s.ppu.lcdc.getLsbD 3 then 0x9C00 else 0x9800
  let wy := (s.ppu.scy.toNat + s.ppu.ly.toNat) % 256
  let wx := (s.ppu.scx.toNat + x) % 256
  tilePixel s (tileRowAddr s (tileIdAt s base (wy / 8) (wx / 8)) (wy % 8)) (wx % 8)

/-- The window is drawn on this line: LCDC[5], WX ≤ 166 and WY ≤ LY (R483). -/
def windowOnLine (s : State) : Bool :=
  s.ppu.lcdc.getLsbD 5 && decide (s.ppu.wx.toNat ≤ 166) && decide (s.ppu.wy.toNat ≤ s.ppu.ly.toNat)

/-- The window covers screen column x: it is drawn on this line and x is WX - 7 or more (R483). -/
def windowAt (s : State) (x : Nat) : Bool := windowOnLine s && decide (s.ppu.wx.toNat ≤ x + 7)

/-- The window's colour index at screen column x (R483). -/
def windowIndex (s : State) (x : Nat) : Shade :=
  let base : Word := if s.ppu.lcdc.getLsbD 6 then 0x9C00 else 0x9800
  let row := s.ppu.winLine.toNat
  let col := x + 7 - s.ppu.wx.toNat
  tilePixel s (tileRowAddr s (tileIdAt s base (row / 8) (col / 8)) (row % 8)) (col % 8)

/-- `bgidx[x]`: the window's index, else the background's, else 0 (R480). -/
def bgIndex (s : State) (x : Nat) : Shade :=
  if windowAt s x then windowIndex s x else if s.ppu.lcdc.getLsbD 0 then backgroundIndex s x else 0

/-- The shade under the sprites: 0, not a palette's, where neither window nor background is drawn (R480, D16). -/
def bgShade (s : State) (x : Nat) : Shade :=
  if windowAt s x || s.ppu.lcdc.getLsbD 0 then shadeOf s.ppu.bgp (bgIndex s x) else 0

/-- Byte k of OAM entry i: Y, X, tile, attributes for k = 0 to 3 (R485). -/
def oamByte (s : State) (i k : Nat) : Byte := s.oam.read (4 * i + k)

/-- The sprite height, 16 or 8 by LCDC[2] (R40). -/
def spriteHeight (s : State) : Nat := if s.ppu.lcdc.getLsbD 2 then 16 else 8

/-- Entry i's Y range contains the line: `Y <= LY + 16 and LY + 16 < Y + h`, as integers (R484). -/
def spriteOnLine (s : State) (i : Nat) : Bool :=
  decide ((oamByte s i 0).toNat ≤ s.ppu.ly.toNat + 16) &&
    decide (s.ppu.ly.toNat + 16 < (oamByte s i 0).toNat + spriteHeight s)

/-- The first ten entries, in OAM order, that are on the line (R484). -/
def selectedSprites (s : State) : List Nat := ((List.range 40).filter (spriteOnLine s)).take 10

/-- An entry put into a list sorted by X, before the first entry whose X is not smaller. -/
def insertByX (s : State) (i : Nat) : List Nat → List Nat
  | [] => [i]
  | j :: js => if (oamByte s i 1).toNat ≤ (oamByte s j 1).toNat then i :: j :: js else j :: insertByX s i js

/-- The selected entries sorted by X and then by index, the first having the highest priority (R484). -/
def sortedSprites (s : State) : List Nat := (selectedSprites s).foldr (insertByX s) []

/-- The tile row address of entry i on this line, after Y flip and 8 by 16 pairing (R484, R485). -/
def spriteRowAddr (s : State) (i : Nat) : Word :=
  let attr := oamByte s i 3
  let row0 := s.ppu.ly.toNat + 16 - (oamByte s i 0).toNat
  let row := if attr.getLsbD 6 then spriteHeight s - 1 - row0 else row0
  let tile := if spriteHeight s = 16 then oamByte s i 2 &&& 0xFE else oamByte s i 2
  0x8000 + tile.setWidth 16 * 16 + BitVec.ofNat 16 (2 * row)

/-- The shade of screen column x after entry i is drawn over the shade `below` (R484): unchanged where the sprite does
not cover the column, where its index is 0, or where it is behind a background index that is not 0. -/
def drawSprite (s : State) (x : Nat) (i : Nat) (below : Shade) : Shade :=
  let left := (oamByte s i 1).toNat
  let attr := oamByte s i 3
  if left ≤ x + 8 ∧ x < left then
    let px := x + 8 - left
    let c := tilePixel s (spriteRowAddr s i) (if attr.getLsbD 5 then 7 - px else px)
    if c = 0 then below
    else if attr.getLsbD 7 ∧ bgIndex s x ≠ 0 then below
    else shadeOf (if attr.getLsbD 4 then s.ppu.obp1 else s.ppu.obp0) c
  else below

/-- The shade of screen column x: background and window, then the sprites from the last of the sorted list to the first
(R480, R484). -/
def pixelShade (s : State) (x : Nat) : Shade :=
  if s.ppu.lcdc.getLsbD 1 then (sortedSprites s).foldr (drawSprite s x) (bgShade s x) else bgShade s x

/-- The 160 shades of the line. -/
def lineShades (s : State) : List Shade := (List.range 160).map (pixelShade s)

/-- `RenderLine()` (R480): row LY of the framebuffer, and win_line counts the lines that drew the window. -/
def renderLine (s : State) : State :=
  { s with ppu := { s.ppu with
      fb := s.ppu.fb.set s.ppu.ly.toNat (lineShades s)
      winLine := if windowOnLine s then s.ppu.winLine + 1 else s.ppu.winLine } }

end Sys2Proof.Machine
end

