-- ==== Sys2Proof/Machine/Ppu.lean ====
section
/-! DEFINITION. The PPU's state machine, one T-state at a time (spec/60_exceptions.md R470 to R475). -/

namespace Sys2Proof.Machine

/-- LCDC[7] (R40). -/
def lcdOn (s : State) : Bool := s.ppu.lcdc.getLsbD 7

/-- A STAT interrupt, if its enable bit is set (R472, R475). -/
def requestStatIf (enable : Bool) (s : State) : State := if enable then requestInterrupt 1 s else s

/-- A tick with the LCD off (R471). -/
def lcdOffTick (s : State) : State :=
  { s with ppu := { s.ppu with ly := 0, dot := 0, mode := .hblank, winLine := 0 } }

/-- `dot <- dot + 1`. -/
def advanceDot (s : State) : State := { s with ppu := { s.ppu with dot := s.ppu.dot + 1 } }

/-- Drawing is entered at dot 80 of a visible line (R472). -/
def enterDrawing (s : State) : State :=
  if s.ppu.ly.toNat < 144 ∧ s.ppu.dot = 80 then { s with ppu := { s.ppu with mode := .drawing } } else s

/-- At dot 252 of a visible line the line is rendered and HBlank is entered (R472); STAT bit 3 enables its interrupt. -/
def enterHBlank (s : State) : State :=
  if s.ppu.ly.toNat < 144 ∧ s.ppu.dot = 252 then
    let s1 := renderLine s
    requestStatIf (s1.ppu.statHi.getLsbD 0) { s1 with ppu := { s1.ppu with mode := .hblank } }
  else s

/-- A new line begins: dot is 0 and LY goes on, from 153 to 0 with win_line cleared (R472). -/
def nextLine (s : State) : State :=
  if s.ppu.ly.toNat + 1 = 154 then { s with ppu := { s.ppu with dot := 0, ly := 0, winLine := 0 } }
  else { s with ppu := { s.ppu with dot := 0, ly := s.ppu.ly + 1 } }

/-- VBlank entry (R473): VBLANK unconditionally, STAT if bit 4 enables it, and a frame is ready. -/
def enterVBlank (s : State) : State :=
  let s1 := requestInterrupt 0 { s with ppu := { s.ppu with mode := .vblank } }
  let s2 := requestStatIf (s1.ppu.statHi.getLsbD 1) s1
  { s2 with ppu := { s2.ppu with frameReady := true } }

/-- OAMScan is entered at the start of a visible line; STAT bit 5 enables its interrupt (R472). -/
def enterOamScan (s : State) : State :=
  requestStatIf (s.ppu.statHi.getLsbD 2) { s with ppu := { s.ppu with mode := .oamScan } }

/-- At dot 456 the next line begins, with the mode it starts in; lines 145 to 153 stay in VBlank (R472). -/
def endOfLine (s : State) : State :=
  if s.ppu.dot = 456 then
    let s1 := nextLine s
    if s1.ppu.ly.toNat = 144 then enterVBlank s1 else if s1.ppu.ly.toNat < 144 then enterOamScan s1 else s1
  else s

/-- `LycCompare()` (R474): STAT bit 6 enables the interrupt of a rising edge. -/
def lycCompare (s : State) : State :=
  let c := decide (s.ppu.ly = s.ppu.lyc)
  let s1 := requestStatIf (c && !s.ppu.coincidence && s.ppu.statHi.getLsbD 3) s
  { s1 with ppu := { s1.ppu with coincidence := c } }

/-- `PpuTick()` (R471, R472). -/
def ppuTick (s : State) : State :=
  if lcdOn s then lycCompare (endOfLine (enterHBlank (enterDrawing (advanceDot s)))) else lcdOffTick s

/-- `PpuAdvance(c)`: `PpuTick()` c times (R470). -/
def ppuAdvance : Nat → State → State
  | 0, s => s
  | c + 1, s => ppuAdvance c (ppuTick s)

end Sys2Proof.Machine
end

