-- ==== Sys2Proof/Machine/Timer.lean ====
section
/-! DEFINITION. The timer (spec/60_exceptions.md R450 to R452). -/

namespace Sys2Proof.Machine

/-- The number of T-states per TIMA increment, by TAC[1:0]: 1024, 16, 64, 256 (R450, D12). -/
def timerPeriod (tac : Byte) : Nat :=
  match (tac.setWidth 2).toNat with
  | 0 => 1024
  | 1 => 16
  | 2 => 64
  | _ => 256

/-- TAC[2], the enable (R37). -/
def timerEnabled (tac : Byte) : Bool := tac.getLsbD 2

/-- `TimaIncrement()` (R451): on overflow TIMA is TMA at once and TIMER is requested. -/
def timaIncrement (s : State) : State :=
  if s.timer.tima = 0xFF then requestInterrupt 2 { s with timer := { s.timer with tima := s.timer.tma } }
  else { s with timer := { s.timer with tima := s.timer.tima + 1 } }

/-- `n` increments one after another. -/
def timaIncrements : Nat → State → State
  | 0, s => s
  | n + 1, s => timaIncrements n (timaIncrement s)

/-- The divider's part of `TimerAdvance(c)`. -/
def advanceDivider (c : Nat) (s : State) : State :=
  { s with timer := { s.timer with divider := s.timer.divider + BitVec.ofNat 16 c } }

/-- TIMA's part of `TimerAdvance(c)`, with the timer enabled: the loop "while tacc >= period: tacc <- tacc - period;
TimaIncrement()" runs (tacc + c) / period times and leaves the remainder. Log entry 14. -/
def advanceTima (c : Nat) (s : State) : State :=
  let total := s.timer.tacc + c
  let period := timerPeriod s.timer.tac
  timaIncrements (total / period) { s with timer := { s.timer with tacc := total % period } }

/-- `TimerAdvance(c)` (R450). -/
def timerAdvance (c : Nat) (s : State) : State :=
  let s1 := advanceDivider c s
  if timerEnabled s1.timer.tac then advanceTima c s1 else s1

end Sys2Proof.Machine
end

