-- ==== Sys2Proof/Machine/CpuStep.lean ====
section
/-! DEFINITION. The CPU step with the interrupt handshake (spec/60_exceptions.md R410 to R416) and the tick around it
(R400). -/

namespace Sys2Proof.Machine

/-- The state in which the instruction at PC has its meaning run: ime_pending is taken out (R415) and PC is past the
instruction (R13). -/
def beforeExec (s : State) : State := (pastInstr s).setImePending false

/-- The end of the instruction after an EI (R415): IME becomes 1, unless that instruction was DI (R383). -/
def promoteIme (promote : Bool) (i : Instr) (s : State) : State :=
  if promote ∧ i ≠ .di then s.setIme true else s

/-- A change made to the state a meaning answers with; a stop stays a stop. -/
def mapNext (f : State → State) : Result → Result
  | .next s => .next (f s)
  | .fault r => .fault r
  | .refused r => .refused r

/-- The instruction at PC, fetched and executed (R410). -/
def runInstr (s : State) : Result :=
  mapNext (promoteIme s.cpu.imePending (fetchInstr s)) (exec (fetchInstr s) (beforeExec s))

/-- The interrupt the handshake takes at this boundary, if any: with IME = 1, the lowest pending one (R411, R416). -/
def interruptToTake (s : State) : Option Nat := if s.cpu.ime then lowestPending s.pending else none

/-- `CpuStep()` (R410): stopped and idle steps return 4 cycles (R413, R414), a dispatch is a step of its own (R411), and a
pending interrupt with IME = 0 ends HALT and goes on to fetch (R412). -/
def cpuStep (s : State) : Result :=
  if s.cpu.run = .stopped then .next (s.withCycles 4)
  else
    match interruptToTake s with
    | some n => .next (takeInterrupt n s)
    | none =>
      if s.cpu.run = .halted ∧ s.pending = 0 then .next (s.withCycles 4)
      else runInstr (s.setRun .running)

/-- What follows the CPU step in a tick: the Timer, then the PPU, each by the count the step returned, then the frame and
the quit test (R400). -/
def afterCpuStep (s : State) : State :=
  quitTest (presentFrame (ppuAdvance s.cycles (timerAdvance s.cycles s)))

/-- `Tick()` (R400). A faulted machine takes no further step (spec/10_state.md R32), and neither does a run the host has ended
(R491). -/
def tick (s : State) : Result :=
  match s.fault with
  | some r => .fault (.unknownOpcode r.pc r.byte)
  | none => if s.ended then .refused .runEnded else mapNext afterCpuStep (cpuStep s)

/-- The state the machine is left in by a tick: after a fault, all of the state before it with the fault recorded (R386,
R430). -/
def stateAfter (s : State) : State :=
  match tick s with
  | .next t => t
  | .fault (.unknownOpcode pc byte) => { s with fault := some { pc := pc, byte := byte } }
  | .refused _ => s

/-! ## Placing an instruction where the next tick fetches it (log entry 13) -/

/-- A byte can be placed at this address so that a read gives it back, with no other effect. -/
def placeable (addr : Word) : Bool :=
  match target addr with
  | .rom _ => true
  | .vram _ => true
  | .wram _ => true
  | .oam _ => true
  | .hram _ => true
  | _ => false

/-- A byte placed from outside the machine: into the cartridge image, lengthened if need be, or into a memory. -/
def placeByte (s : State) (addr : Word) (v : Byte) : State :=
  match target addr with
  | .rom x =>
    { s with cart := { s.cart with
        rom := s.cart.rom.write (romOffset s x) v
        romSize := max s.cart.romSize (romOffset s x + 1) } }
  | .vram o => { s with vram := s.vram.write o v }
  | .wram o => { s with wram := s.wram.write o v }
  | .oam o => { s with oam := s.oam.write o v }
  | .hram o => { s with hram := s.hram.write o v }
  | _ => s

/-- A state whose next tick fetches: no fault, not ended, running, and no interrupt to take. -/
def readyToFetch (s : State) : State :=
  let s1 := { s.setRun .running with fault := none, ended := false }
  if (interruptToTake s1).isSome then s1.setIme false else s1

/-- Where the instruction is placed: at PC, or in WRAM where a byte at PC cannot be placed. -/
def placingAddress (pc : Word) : Word :=
  if placeable pc && placeable (pc + 1) && placeable (pc + 2) then pc else 0xC000

/-- Three bytes placed where the next tick fetches. -/
def placeInstr (s : State) (bytes : Byte × Byte × Byte) : State :=
  let pc := placingAddress s.cpu.pc
  let s1 := (readyToFetch s).setPC pc
  placeByte (placeByte (placeByte s1 pc bytes.1) (pc + 1) bytes.2.1) (pc + 2) bytes.2.2

end Sys2Proof.Machine
end

