-- ==== Sys2Proof/Machine/Step.lean ====
section
/-! DEFINITION. The machine's step, one tick of spec/60_exceptions.md R400, and the placing of an instruction where the next
step fetches it. -/

namespace Sys2Proof.Machine

/-- One step: `Tick()` (R400). -/
def step (s : State) : Host.Outcome State Fault Refusal := tick s

/-- The state with the instruction of an opcode-table word placed where `step` fetches next. Log entries 5 and 13. -/
def State.withFetchWord (s : State) (nbits w : Nat) : State := placeInstr s (tableBytes nbits w)

end Sys2Proof.Machine
end

