-- ==== Sys2Proof/Safety.lean ====
section
/-! DEFINITION. The terms claims are stated in: the fields of an encoding, what always holds of a machine that started well,
when a step runs, where an instruction stores and what a store may change, and results and flags in numbers. -/

namespace Sys2Proof

/-! ## The fields of an encoding (spec/00_scope.md R11, spec/30_encoding.md R162, R163) -/

/-- The index of a register in the table `r8`; 6 is the byte at HL. -/
def Reg8.code : Reg8 → Nat
  | .b => 0 | .c => 1 | .d => 2 | .e => 3 | .h => 4 | .l => 5 | .a => 7

/-- The index of an operand in the table `r8`. -/
def Operand8.code : Operand8 → Nat
  | .reg r => r.code
  | .atHL => 6

/-- The index of a pair in the table `r16`. -/
def Reg16.code : Reg16 → Nat
  | .bc => 0 | .de => 1 | .hl => 2 | .sp => 3

/-- The index of a pair in the table `r16stk`. -/
def StkPair.code : StkPair → Nat
  | .bc => 0 | .de => 1 | .hl => 2 | .af => 3

/-- The index of a condition in the table `cc`. -/
def Cond.code : Cond → Nat
  | .nz => 0 | .z => 1 | .nc => 2 | .c => 3

/-- The field y of an arithmetic or logic operation. -/
def AluOp.code : AluOp → Nat
  | .add => 0 | .adc => 1 | .sub => 2 | .sbc => 3 | .and => 4 | .xor => 5 | .or => 6 | .cp => 7

/-- The field y of a rotate or shift. -/
def RotOp.code : RotOp → Nat
  | .rlc => 0 | .rrc => 1 | .rl => 2 | .rr => 3 | .sla => 4 | .sra => 5 | .swap => 6 | .srl => 7

/-- A byte given as a number. -/
def opByte (n : Nat) : Byte := BitVec.ofNat 8 n

/-- These bytes are the encoding of the instruction, and they decode to it with nothing left over. -/
def EncodedAs (i : Instr) (bytes : List Byte) : Prop := encode i = bytes ∧ decode bytes = .ok (i, [])

end Sys2Proof

namespace Sys2Proof.Machine

/-! ## What always holds -/

/-- Every array is in canonical form and within its size (spec/10_state.md R51). -/
structure MemoriesWf (s : State) : Prop where
  vram : s.vram.wf 8192 = true
  extRam : s.extRam.wf s.cart.ramBytes = true
  wram : s.wram.wf 8192 = true
  oam : s.oam.wf 160 = true
  io : s.io.wf 128 = true
  hram : s.hram.wf 127 = true
  rom : s.cart.rom.wf s.cart.romSize = true

/-- "F's low nibble is zero" (R22). -/
def FlagsWf (s : State) : Prop := s.cpu.f &&& 0x0F = 0

/-- MBC1's 5-bit bank field never holds 0 (R49). -/
def BankLoWf (s : State) : Prop := s.mbc.bankLo ≠ 0

/-- The PPU's position is on a line of a frame and its mode is the one of that position (spec/60_exceptions.md R470, R472):
VBlank on lines 144 to 153 and nowhere else; on a visible line Drawing from dot 80 to 251, OAMScan only before dot 80,
HBlank from dot 252 on, or before dot 80 of line 0 after the LCD was switched on (R471). -/
structure ScanWf (p : Ppu) : Prop where
  line : p.ly.toNat < 154
  dot : p.dot < 456
  vblank : p.mode = .vblank ↔ 144 ≤ p.ly.toNat
  drawing : p.mode = .drawing ↔ p.ly.toNat < 144 ∧ 80 ≤ p.dot ∧ p.dot < 252
  oamScan : p.mode = .oamScan → p.dot < 80
  hblank : p.mode = .hblank → 252 ≤ p.dot ∨ (p.ly.toNat = 0 ∧ p.dot < 80)

/-- The framebuffer has 144 rows of 160 cells (R52). -/
structure FramebufferWf (p : Ppu) : Prop where
  rows : p.fb.length = 144
  cells : ∀ row ∈ p.fb, row.length = 160

/-- "always less than the current TIMA period after a timer advance while the timer is enabled" (R50). -/
def TaccWf (s : State) : Prop := timerEnabled s.timer.tac = true → s.timer.tacc < timerPeriod s.timer.tac

/-- What every step keeps: the machine's invariant between ticks. -/
structure Inv (s : State) : Prop where
  memories : MemoriesWf s
  flags : FlagsWf s
  bankLo : BankLoWf s
  scan : ScanWf s.ppu
  framebuffer : FramebufferWf s.ppu
  tacc : TaccWf s
  /-- No frame waits to be presented between ticks (R400, R52). -/
  frameReady : s.ppu.frameReady = false

/-! ## When a step runs -/

/-- The machine is not over: no fault is recorded and the host has not ended the run. -/
def Live (s : State) : Prop := s.fault = none ∧ s.ended = false

/-- The next boundary fetches and executes the instruction at PC: no STOP, no interrupt to take, no idle HALT (R410). -/
def Executes (s : State) : Prop :=
  Live s ∧ s.cpu.run ≠ .stopped ∧ interruptToTake s = none ∧ ¬(s.cpu.run = .halted ∧ s.pending = 0)

/-! ## Where an instruction stores -/

/-- The condition of a conditional instruction's store: its addresses when the condition holds, else none. -/
def storedIf (b : Bool) (l : List Word) : List Word := if b then l else []

/-- The two bytes a push writes (spec/00_scope.md R12 `Push16`). -/
def pushedBytes (s : State) : List Word := [s.cpu.sp - 1, s.cpu.sp - 2]

/-- The addresses an instruction stores to when its meaning runs in a state, in the order of the stores. An instruction that
is not named stores nothing: a claim that uses this list is false of the model if one is missing. -/
def storedAddresses (s : State) : Instr → List Word
  | .ld_atHL_b | .ld_atHL_c | .ld_atHL_d | .ld_atHL_e | .ld_atHL_h | .ld_atHL_l | .ld_atHL_a | .ld_atHL_n _
  | .ld_atHLinc_a | .ld_atHLdec_a | .inc_atHL | .dec_atHL
  | .rlc_atHL | .rrc_atHL | .rl_atHL | .rr_atHL | .sla_atHL | .sra_atHL | .swap_atHL | .srl_atHL
  | .res_0_atHL | .res_1_atHL | .res_2_atHL | .res_3_atHL | .res_4_atHL | .res_5_atHL | .res_6_atHL | .res_7_atHL
  | .set_0_atHL | .set_1_atHL | .set_2_atHL | .set_3_atHL | .set_4_atHL | .set_5_atHL | .set_6_atHL | .set_7_atHL =>
    [s.hl]
  | .prefix_cb op2 => storedIf (decide (op2.toNat % 8 = 6) && decide (op2.toNat / 64 ≠ 1)) [s.hl]
  | .ld_atBC_a => [s.bc]
  | .ld_atDE_a => [s.de]
  | .ld_atNN_a nn => [nn]
  | .ldh_atN_a n => [highPage n]
  | .ld_atC_a => [highPage s.cpu.c]
  | .ld_atNN_sp nn => [nn, nn + 1]
  | .push_bc | .push_de | .push_hl | .push_af | .call_nn _
  | .rst_00 | .rst_08 | .rst_10 | .rst_18 | .rst_20 | .rst_28 | .rst_30 | .rst_38 => pushedBytes s
  | .call_nz_nn _ => storedIf (!s.flagZ) (pushedBytes s)
  | .call_z_nn _ => storedIf s.flagZ (pushedBytes s)
  | .call_nc_nn _ => storedIf (!s.flagC) (pushedBytes s)
  | .call_c_nn _ => storedIf s.flagC (pushedBytes s)
  | _ => []

/-- A store to address `a` may change what a read of address `b` gives: both lead to the same byte (Echo and WRAM, or two
windows on one external RAM cell), or `a` is a bank controller's and `b` lies in a window it maps, or `a` is DMA and `b`
lies in OAM (spec/20_memory.md R83, R91, R109, R135 to R139). -/
def storeReaches (s : State) (a b : Word) : Bool :=
  match target a, target b with
  | .rom _, .rom _ => decide (s.cart.kind = .mbc1)
  | .rom _, .extRam _ => decide (s.cart.kind = .mbc1)
  | .extRam o, .extRam o' => (extRamOffset s o).isSome && decide (extRamOffset s o = extRamOffset s o')
  | .io .dma, .oam _ => true
  | .unusable, _ => false
  | .io .ly, _ => false
  | x, y => decide (x = y)

/-- A step of this state ends in a next state. -/
def Runs (s : State) : Prop := ∃ t, step s = .next t

/-! ## Results, as the spec's rules give them -/

/-- F written whole from its four flags as numbers 0 or 1 (spec/10_state.md R22, R27). -/
def flagByte (z n h c : Bool) : Byte := BitVec.ofNat 8 (128 * z.toNat + 64 * n.toNat + 32 * h.toNat + 16 * c.toNat)

/-- A, F and the cycle count written, everything else as it was. -/
def withAF (s : State) (a f : Byte) (n : Nat) : State := { s with cpu := { s.cpu with a := a, f := f }, cycles := n }

/-- The state after a sum `A + v + cin` into A, by spec/42_alu8.md R260. -/
def afterAdd (s : State) (v : Byte) (cin : Nat) (n : Nat) : State :=
  let full := s.cpu.a.toNat + v.toNat + cin
  withAF s (BitVec.ofNat 8 full)
    (flagByte (decide (full % 256 = 0)) false (decide (s.cpu.a.toNat % 16 + v.toNat % 16 + cin ≥ 16)) (decide (full ≥ 256))) n

/-- F after a difference `A - v - cin`, by spec/42_alu8.md R261: the borrows are those of the integers. -/
def flagsOfDifference (s : State) (v : Byte) (cin : Nat) : Byte :=
  flagByte (decide ((s.cpu.a.toNat + 512 - v.toNat - cin) % 256 = 0)) true
    (decide (s.cpu.a.toNat % 16 < v.toNat % 16 + cin)) (decide (s.cpu.a.toNat < v.toNat + cin))

/-- The state after a difference `A - v - cin` into A (R261). -/
def afterSub (s : State) (v : Byte) (cin : Nat) (n : Nat) : State :=
  withAF s (BitVec.ofNat 8 (s.cpu.a.toNat + 512 - v.toNat - cin)) (flagsOfDifference s v cin) n

/-- The state after two bytes are pushed and SP is 2 less (spec/00_scope.md R12 `Push16`), with PC and the cycle count
written too. -/
def afterPush (s : State) (v : Word) (pc : Word) (n : Nat) : State :=
  { memWrite (memWrite s (s.cpu.sp - 1) (hiByte v)) (s.cpu.sp - 2) (loByte v) with
    cpu := { s.cpu with sp := s.cpu.sp - 2, pc := pc }, cycles := n }

/-- The two bytes at SP, the low byte at the lower address (`Pop16`). -/
def poppedWord (s : State) : Word := word16 (memRead s (s.cpu.sp + 1)) (memRead s s.cpu.sp)

/-- A rotate's or shift's result and its carry out, as numbers (spec/44_rotate_shift_bit.md R325 to R340). -/
def rotResult (op : RotOp) (v : Byte) (carry : Bool) : Nat :=
  match op with
  | .rlc => 2 * v.toNat % 256 + v.toNat / 128
  | .rrc => v.toNat / 2 + 128 * (v.toNat % 2)
  | .rl => 2 * v.toNat % 256 + carry.toNat
  | .rr => v.toNat / 2 + 128 * carry.toNat
  | .sla => 2 * v.toNat % 256
  | .sra => v.toNat / 2 + 128 * (v.toNat / 128)
  | .swap => 16 * (v.toNat % 16) + v.toNat / 16
  | .srl => v.toNat / 2

/-- The bit a rotate or shift moves out, as C takes it: bit 7 leftwards, bit 0 rightwards, 0 for SWAP. -/
def rotCarry (op : RotOp) (v : Byte) : Bool :=
  match op with
  | .rlc | .rl | .sla => decide (v.toNat ≥ 128)
  | .rrc | .rr | .sra | .srl => decide (v.toNat % 2 = 1)
  | .swap => false

/-! ## The scan -/

/-- The number of a T-state in a frame, 0 to 70223: LY × 456 + dot (spec/60_exceptions.md R470). -/
def framePosition (p : Ppu) : Nat := p.ly.toNat * 456 + p.dot

end Sys2Proof.Machine
end

