-- ==== Sys2Proof/Certificates/Slice0/Obligations.lean ====
section
/-! DEFINITION. The statements for the provers. Each is named by what it states; its docstring says it in words, and
OBLIGATIONS.json gives the rules of the spec it rests on. Results are written in numbers and in the state's own fields. -/

open Sys2Proof Sys2Proof.Machine

/-! ## Encoding -/

/-- The bytes the spec's rules and scenarios write out decode to the instruction they stand for: 3E 42, E0 80, F0 80,
3D, 20 FD, F5, F1, 31 FE FF, 08 00 C1, C3 50 01, CD 00 02, EF, CB 7C, CB 37, CB 86, 76, 10 00, DD. (That DD is one of
the undefined opcodes is the spec's decision D8, and that STOP is two bytes is D6.) -/
def Obligations.DecodesTheSpecsExampleWords : Prop :=
  decode [0x3E, 0x42] = .ok (.ld_a_n 0x42, []) ∧ decode [0xE0, 0x80] = .ok (.ldh_atN_a 0x80, []) ∧
  decode [0xF0, 0x80] = .ok (.ldh_a_atN 0x80, []) ∧ decode [0x3D] = .ok (.dec_a, []) ∧
  decode [0x20, 0xFD] = .ok (.jr_nz_e 0xFD, []) ∧ decode [0xF5] = .ok (.push_af, []) ∧
  decode [0xF1] = .ok (.pop_af, []) ∧ decode [0x31, 0xFE, 0xFF] = .ok (.ld_sp_nn 0xFFFE, []) ∧
  decode [0x08, 0x00, 0xC1] = .ok (.ld_atNN_sp 0xC100, []) ∧ decode [0xC3, 0x50, 0x01] = .ok (.jp_nn 0x0150, []) ∧
  decode [0xCD, 0x00, 0x02] = .ok (.call_nn 0x0200, []) ∧ decode [0xEF] = .ok (.rst_28, []) ∧
  decode [0xCB, 0x7C] = .ok (.bit_7_h, []) ∧ decode [0xCB, 0x37] = .ok (.swap_a, []) ∧
  decode [0xCB, 0x86] = .ok (.res_0_atHL, []) ∧ decode [0x76] = .ok (.halt, []) ∧
  decode [0x10, 0x00] = .ok (.stop 0x00, []) ∧ decode [0xDD] = .ok (.illegal .opDD, [])

/-- For every well-formed instruction, with every operand at every value, and for every list of bytes after it:
decoding the encoding followed by those bytes gives the instruction and leaves exactly those bytes. -/
def Obligations.DecodeOfEncodeIsTheInstruction : Prop :=
  ∀ (i : Instr) (rest : List Byte), i.WellFormed → decode (encode i ++ rest) = .ok (i, rest)

/-- For every list of bytes: if it decodes to an instruction with some bytes left over, the instruction is well formed
and its encoding followed by the bytes left over is the list. So each word has one meaning and no bit of it is
dropped, STOP's unchecked second byte among them. (That STOP's second byte is fetched and not checked is the spec's
decision D6.) -/
def Obligations.EncodeOfDecodeIsTheBytes : Prop :=
  ∀ (bytes rest : List Byte) (i : Instr), decode bytes = .ok (i, rest) → i.WellFormed ∧ encode i ++ rest = bytes

/-- For every list of bytes that decodes, with opcode byte b0 defined: three bytes are taken when b0 is one of the 17
opcodes R165 lists with length 3, two when it is one of the 27 it lists with length 2 (the prefix 0xCB among them),
and one otherwise. -/
def Obligations.LengthIsGivenByTheOpcodeByte : Prop :=
  ∀ (b0 : Byte) (tail rest : List Byte) (i : Instr), decode (b0 :: tail) = .ok (i, rest) → (∀ u, i ≠ .illegal u) →
    tail.length + 1 = rest.length +
      (if b0 ∈ ([0x01, 0x11, 0x21, 0x31, 0x08, 0xC2, 0xC3, 0xC4, 0xCA, 0xCC, 0xCD, 0xD2, 0xD4, 0xDA, 0xDC, 0xEA, 0xFA] :
          List Byte) then 3
      else if b0 ∈ ([0x06, 0x0E, 0x16, 0x1E, 0x26, 0x2E, 0x36, 0x3E, 0x10, 0x18, 0x20, 0x28, 0x30, 0x38, 0xC6, 0xCE, 0xD6,
          0xDE, 0xE6, 0xEE, 0xF6, 0xFE, 0xE0, 0xF0, 0xE8, 0xF8, 0xCB] : List Byte) then 2
      else 1)

/-! ## A step, and every instruction in it -/

/-- In a live machine whose boundary fetches (not stopped, no interrupt to take, not idle in HALT): if the three bytes
read through the MMU from PC on decode to i, then the step is exec of i in the state with run = running, ime_pending =
0 and PC past the instruction; then IME becomes 1 if ime_pending was 1 and i is not DI; then the timer, the PPU, the
frame and the quit test follow by the count the instruction gave. (That IME becomes 1 after the following instruction,
and not after DI, is the spec's decision D5; that a HALT that wakes fetches in the same step, and runs the next
instruction once, are D4 and D3; that a dispatch is a step of its own is D2; that the frame is presented and the
buttons are taken within the tick is D29; that quit is tested at the end of the tick is D35; log entry 11. How the
model writes it: the fetch reads three bytes at once and moves PC first, log entry 12; a step is one tick, entry 10;
the count is held in the field cycles, entry 9; the quit test and the ended mark are entry 3, the queue of button sets
is entry 1.) -/
def Obligations.StepRunsTheDecodedInstruction : Prop :=
  ∀ (s : State) (i : Instr) (rest : List Byte), Executes s →
    decode [memRead s s.cpu.pc, memRead s (s.cpu.pc + 1), memRead s (s.cpu.pc + 2)] = .ok (i, rest) →
    step s = mapNext (fun t => quitTest (presentFrame (ppuAdvance t.cycles (timerAdvance t.cycles t))))
      (mapNext (fun t => if s.cpu.imePending = true ∧ i ≠ .di then t.setIme true else t)
        (exec i { s with cpu := { s.cpu with
          run := .running, imePending := false, pc := s.cpu.pc + BitVec.ofNat 16 (3 - rest.length) } }))

/-- For every instruction that is not one of the eleven undefined opcodes, and for every state: its meaning answers a
next state, whose cycle count is a multiple of 4 from 4 to 24, and which differs from the old state outside the CPU's
registers, the memory-mapped parts and the cycle count in nothing: the cartridge, the fault record, the host's queue,
the frame count and the quit flags are unchanged. -/
def Obligations.EveryDefinedInstructionCompletes : Prop :=
  ∀ (i : Instr) (s : State), (∀ u, i ≠ .illegal u) →
    ∃ t, exec i s = .next t ∧ 4 ≤ t.cycles ∧ t.cycles ≤ 24 ∧ t.cycles % 4 = 0 ∧
      t.cart = s.cart ∧ t.fault = s.fault ∧ t.inputs = s.inputs ∧ t.frames = s.frames ∧
      t.quitRequested = s.quitRequested ∧ t.ended = s.ended

/-- The bytes that decode to an undefined opcode are exactly the eleven R172 lists, whatever follows them; executing
one faults with the address of the opcode byte (PC is one past it) and the byte; and executing any other instruction
does not fault in any state. (That they fault, with the address and the byte, is the spec's decision D8; that the
meaning computes the address as PC minus 1, and that the fault is an outcome, is the model's choice, log entry 4,
since a meaning runs with PC past the instruction, entry 12.) -/
def Obligations.OnlyTheElevenUndefinedOpcodesFault : Prop :=
  (∀ b0 b1 b2 : Byte, (∃ u, decode3 b0 b1 b2 = .illegal u) ↔
    b0 ∈ ([0xD3, 0xDB, 0xDD, 0xE3, 0xE4, 0xEB, 0xEC, 0xED, 0xF4, 0xFC, 0xFD] : List Byte)) ∧
  (∀ (u : UndefinedOpcode) (b0 b1 b2 : Byte) (s : State), decode3 b0 b1 b2 = .illegal u →
    exec (.illegal u) s = .fault (.unknownOpcode (s.cpu.pc - 1) b0)) ∧
  (∀ (i : Instr) (s : State) (f : Fault), exec i s = .fault f → ∃ u, i = .illegal u)

/-- For every instruction whose meaning answers a next state, and every address b: if none of the addresses the
instruction stores to (computed from the state it runs in: HL, BC, DE, nn, 0xFF00 + n, 0xFF00 + C, SP - 1 and SP - 2;
none for a form that stores nothing) reaches b, reading b after gives what reading b before gave. A store reaches the
byte it addresses under each of its addresses, the windows a bank controller's register maps, and OAM when it starts a
DMA. (The Echo's mirror of WRAM is the spec's decision D31, the bank controller's windows are D23, and OAM DMA inside
the write is D22.) -/
def Obligations.MemoryFrameOfEveryInstruction : Prop :=
  ∀ (i : Instr) (s t : State) (b : Word), exec i s = .next t →
    (∀ a ∈ storedAddresses s i, storeReaches s a b = false) → memRead t b = memRead s b

/-! ## Registers -/

/-- AF, BC, DE and HL read as first register : second register. Writing an 8-bit register changes it and no other;
writing BC, DE, HL or SP through the fields of R11 writes both halves, reads back as written, and changes no register
outside the pair; writing AF writes A and F, F losing its low four bits (its hardwired ones), and changes nothing else
in the machine; and no register write changes anything outside the CPU's registers. -/
def Obligations.PairsAliasTheirHalves : Prop :=
  (∀ s : State, s.af = word16 s.cpu.a s.cpu.f ∧ s.bc = word16 s.cpu.b s.cpu.c ∧ s.de = word16 s.cpu.d s.cpu.e ∧
    s.hl = word16 s.cpu.h s.cpu.l) ∧
  (∀ (s : State) (r r' : Reg8) (v : Byte), (s.setReg8 r v).reg8 r' = if r' = r then v else s.reg8 r') ∧
  (∀ (s : State) (p p' : Reg16) (v : Word), (s.setPair p v).pair p' = if p' = p then v else s.pair p') ∧
  (∀ (s : State) (v : Word), s.setBC v = (s.setReg8 .b (hiByte v)).setReg8 .c (loByte v) ∧
    s.setDE v = (s.setReg8 .d (hiByte v)).setReg8 .e (loByte v) ∧
    s.setHL v = (s.setReg8 .h (hiByte v)).setReg8 .l (loByte v) ∧
    s.setAF v = { s with cpu := { s.cpu with a := hiByte v, f := loByte v &&& 0xF0 } } ∧
    (s.setAF v).af = word16 (hiByte v) (loByte v &&& 0xF0)) ∧
  (∀ (s : State) (r : Reg8) (v : Byte), ∃ c, s.setReg8 r v = { s with cpu := c } ∧ c.f = s.cpu.f ∧ c.sp = s.cpu.sp ∧
    c.pc = s.cpu.pc ∧ c.ime = s.cpu.ime ∧ c.imePending = s.cpu.imePending ∧ c.run = s.cpu.run) ∧
  (∀ (s : State) (p : Reg16) (v : Word), ∃ c, s.setPair p v = { s with cpu := c } ∧ c.a = s.cpu.a ∧ c.f = s.cpu.f ∧
    c.pc = s.cpu.pc ∧ c.ime = s.cpu.ime ∧ c.imePending = s.cpu.imePending ∧ c.run = s.cpu.run)

/-- The flags Z, N, H, C are bits 7, 6, 5, 4 of F; every write to F stores the value with its low nibble cleared, POP
AF's among them; if F's low nibble is zero before an instruction it is zero after; and then the low byte of AF, which
PUSH AF pushes, has a low nibble of zero. -/
def Obligations.LowNibbleOfFStaysZero : Prop :=
  (∀ s : State, s.flagZ = s.cpu.f.getLsbD 7 ∧ s.flagN = s.cpu.f.getLsbD 6 ∧ s.flagH = s.cpu.f.getLsbD 5 ∧
    s.flagC = s.cpu.f.getLsbD 4) ∧
  (∀ (s : State) (v : Byte), (s.setF v).cpu.f = v &&& 0xF0) ∧
  (∀ (s : State) (v : Word), (s.setAF v).cpu.f = loByte v &&& 0xF0) ∧
  (∀ (i : Instr) (s t : State), s.cpu.f &&& 0x0F = 0 → exec i s = .next t → t.cpu.f &&& 0x0F = 0) ∧
  (∀ s : State, s.cpu.f &&& 0x0F = 0 → loByte s.af &&& 0x0F = 0)

/-! ## 8-bit loads -/

/-- For every destination register and every source register, LD r,r' is encoded 01 yyy zzz and answers the state with
r holding r' and 4 cycles; LD r,n is 00 yyy 110 then n, and answers r holding n and 8 cycles; LD r,(HL) is 01 yyy 110
and answers r holding the byte read at the address H:L held before, and 8 cycles. Every other register, the flags, PC
as the fetch left it, and all memory are unchanged. LD (HL),r is encoded 01 110 zzz and answers the state after one
byte write of r at address H:L, with 8 cycles; LD (HL),n is 36 n and writes n, with 12 cycles. The CPU's registers, H
and L among them, and the flags are unchanged. Covers the 49 + 7 + 7 + 7 + 1 instructions. -/
def Obligations.LoadRegisterAndStoreAtHL : Prop :=
  (∀ (dst src : Reg8) (s : State), EncodedAs (.ldRegReg dst src) [opByte (0x40 + 8 * dst.code + src.code)] ∧
    exec (.ldRegReg dst src) s = .next { s.setReg8 dst (s.reg8 src) with cycles := 4 }) ∧
  (∀ (dst : Reg8) (n : Byte) (s : State), EncodedAs (.ldRegImm dst n) [opByte (0x06 + 8 * dst.code), n] ∧
    exec (.ldRegImm dst n) s = .next { s.setReg8 dst n with cycles := 8 }) ∧
  (∀ (dst : Reg8) (s : State), EncodedAs (.ldRegAtHL dst) [opByte (0x46 + 8 * dst.code)] ∧
    exec (.ldRegAtHL dst) s = .next { s.setReg8 dst (memRead s (word16 s.cpu.h s.cpu.l)) with cycles := 8 }) ∧
  (∀ (src : Reg8) (s : State), EncodedAs (.ldAtHLReg src) [opByte (0x70 + src.code)] ∧
    exec (.ldAtHLReg src) s =
      .next { memWrite s (word16 s.cpu.h s.cpu.l) (s.reg8 src) with cpu := s.cpu, cycles := 8 }) ∧
  (∀ (n : Byte) (s : State), EncodedAs (.ld_atHL_n n) [0x36, n] ∧
    exec (.ld_atHL_n n) s = .next { memWrite s (word16 s.cpu.h s.cpu.l) n with cpu := s.cpu, cycles := 12 })

/-- The five loads answer the state with A holding the byte read at their address (B:C, D:E, nn, 0xFF00 + n, 0xFF00 +
C); the five stores answer the state after one byte write of A through the MMU at that address; 8, 8, 16, 12 and 8
cycles. Every other register, the flags and, for the loads, all memory are unchanged. The encodings are 0A, 1A, FA lo
hi, F0 n, F2 for the loads and 02, 12, EA lo hi, E0 n, E2 for the stores. -/
def Obligations.LoadAndStoreA : Prop :=
  (∀ (s : State) (n : Byte) (nn : Word),
     EncodedAs .ld_a_atBC [0x0A] ∧ EncodedAs .ld_a_atDE [0x1A] ∧ EncodedAs (.ld_a_atNN nn) [0xFA, loByte nn, hiByte nn] ∧
     EncodedAs (.ldh_a_atN n) [0xF0, n] ∧ EncodedAs .ld_a_atC [0xF2] ∧
     exec .ld_a_atBC s =
       .next { s with cpu := { s.cpu with a := memRead s (word16 s.cpu.b s.cpu.c) }, cycles := 8 } ∧
     exec .ld_a_atDE s =
       .next { s with cpu := { s.cpu with a := memRead s (word16 s.cpu.d s.cpu.e) }, cycles := 8 } ∧
     exec (.ld_a_atNN nn) s = .next { s with cpu := { s.cpu with a := memRead s nn }, cycles := 16 } ∧
     exec (.ldh_a_atN n) s =
       .next { s with cpu := { s.cpu with a := memRead s (0xFF00 + n.setWidth 16) }, cycles := 12 } ∧
     exec .ld_a_atC s =
       .next { s with cpu := { s.cpu with a := memRead s (0xFF00 + s.cpu.c.setWidth 16) }, cycles := 8 }) ∧
  (∀ (s : State) (n : Byte) (nn : Word),
     EncodedAs .ld_atBC_a [0x02] ∧ EncodedAs .ld_atDE_a [0x12] ∧ EncodedAs (.ld_atNN_a nn) [0xEA, loByte nn, hiByte nn] ∧
     EncodedAs (.ldh_atN_a n) [0xE0, n] ∧ EncodedAs .ld_atC_a [0xE2] ∧
     exec .ld_atBC_a s = .next { memWrite s (word16 s.cpu.b s.cpu.c) s.cpu.a with cpu := s.cpu, cycles := 8 } ∧
     exec .ld_atDE_a s = .next { memWrite s (word16 s.cpu.d s.cpu.e) s.cpu.a with cpu := s.cpu, cycles := 8 } ∧
     exec (.ld_atNN_a nn) s = .next { memWrite s nn s.cpu.a with cpu := s.cpu, cycles := 16 } ∧
     exec (.ldh_atN_a n) s = .next { memWrite s (0xFF00 + n.setWidth 16) s.cpu.a with cpu := s.cpu, cycles := 12 } ∧
     exec .ld_atC_a s = .next { memWrite s (0xFF00 + s.cpu.c.setWidth 16) s.cpu.a with cpu := s.cpu, cycles := 8 })

/-- LD (HL+),A and LD (HL-),A write A at the old HL, LD A,(HL+) and LD A,(HL-) read A there; then HL is one more or
one less modulo 65536; 8 cycles; no flag and no other register changes. The encodings are 22, 2A, 32 and 3A. -/
def Obligations.LoadAndStoreMovingHL : Prop :=
  ∀ s : State,
    EncodedAs .ld_atHLinc_a [0x22] ∧ EncodedAs .ld_a_atHLinc [0x2A] ∧ EncodedAs .ld_atHLdec_a [0x32] ∧
    EncodedAs .ld_a_atHLdec [0x3A] ∧
    exec .ld_atHLinc_a s = .next { memWrite s s.hl s.cpu.a with
      cpu := { s.cpu with h := hiByte (s.hl + 1), l := loByte (s.hl + 1) }, cycles := 8 } ∧
    exec .ld_a_atHLinc s = .next { s with
      cpu := { s.cpu with a := memRead s s.hl, h := hiByte (s.hl + 1), l := loByte (s.hl + 1) }, cycles := 8 } ∧
    exec .ld_atHLdec_a s = .next { memWrite s s.hl s.cpu.a with
      cpu := { s.cpu with h := hiByte (s.hl - 1), l := loByte (s.hl - 1) }, cycles := 8 } ∧
    exec .ld_a_atHLdec s = .next { s with
      cpu := { s.cpu with a := memRead s s.hl, h := hiByte (s.hl - 1), l := loByte (s.hl - 1) }, cycles := 8 }

/-! ## 16-bit loads, PUSH and POP -/

/-- LD rr,nn is encoded 00 pp0 001, low byte, high byte, for rr in BC, DE, HL, SP, and answers the state with the pair
holding nn and 12 cycles; LD SP,HL is F9 and answers SP = HL and 8 cycles. No flag, no other register and no memory
changes with these. LD (nn),SP is encoded 08 lo hi and answers the state after the write of SP's low byte at nn and
then of its high byte at nn + 1 (modulo 65536), each dispatched on its own, with 20 cycles; no register and no flag
changes. -/
def Obligations.LoadPairAndStoreStackPointer : Prop :=
  (∀ (p : Reg16) (nn : Word) (s : State), EncodedAs (.ldPairImm p nn) [opByte (0x01 + 16 * p.code), loByte nn, hiByte nn] ∧
    exec (.ldPairImm p nn) s = .next { s.setPair p nn with cycles := 12 }) ∧
  (∀ s : State, EncodedAs .ld_sp_hl [0xF9] ∧
    exec .ld_sp_hl s = .next { s with cpu := { s.cpu with sp := s.hl }, cycles := 8 }) ∧
  (∀ (nn : Word) (s : State), EncodedAs (.ld_atNN_sp nn) [0x08, loByte nn, hiByte nn] ∧
     exec (.ld_atNN_sp nn) s =
       .next { memWrite (memWrite s nn (loByte s.cpu.sp)) (nn + 1) (hiByte s.cpu.sp) with cpu := s.cpu, cycles := 20 })

/-- Both form SP + e with e signed, modulo 65536. LD HL,SP+e (F8 e) writes it to HL, with 12 cycles; ADD SP,e (E8 e)
writes it to SP, with 16 cycles. Both set Z = N = 0, H when the low nibbles of SP and of the raw byte e sum above 15,
C when the low byte of SP and the raw byte e sum above 255. Nothing else changes. -/
def Obligations.AddDisplacementToSP : Prop :=
  ∀ (e : Byte) (s : State),
    let sum := s.cpu.sp + BitVec.ofInt 16 e.toInt
    let f := flagByte false false (decide (s.cpu.sp.toNat % 16 + e.toNat % 16 > 15))
      (decide (s.cpu.sp.toNat % 256 + e.toNat > 255))
    EncodedAs (.ld_hl_sp_e e) [0xF8, e] ∧ EncodedAs (.add_sp_e e) [0xE8, e] ∧
    exec (.ld_hl_sp_e e) s =
      .next { s with cpu := { s.cpu with h := hiByte sum, l := loByte sum, f := f }, cycles := 12 } ∧
    exec (.add_sp_e e) s = .next { s with cpu := { s.cpu with sp := sum, f := f }, cycles := 16 }

/-- PUSH rr is encoded 11 pp0 101 for rr in BC, DE, HL, AF, and answers the state after the write of the pair's high
byte at SP - 1 and then of its low byte at SP - 2 (modulo 65536), with SP 2 less and 16 cycles; no other register and
no flag changes. POP BC, DE, HL (C1, D1, E1) write the pair whose high register gets the byte at SP + 1 and whose low
register the byte at SP; POP AF (F1) writes A and F the same way, F with its low nibble cleared; SP is 2 more (modulo
65536), 12 cycles, and no memory and no other register changes. -/
def Obligations.PushAndPop : Prop :=
  (∀ (p : StkPair) (s : State), EncodedAs (.push p) [opByte (0xC5 + 16 * p.code)] ∧
     exec (.push p) s = .next (afterPush s (s.stkPair p) s.cpu.pc 16)) ∧
  (∀ s : State,
     let hi := memRead s (s.cpu.sp + 1)
     let lo := memRead s s.cpu.sp
     (∀ p : StkPair, EncodedAs (.pop p) [opByte (0xC1 + 16 * p.code)]) ∧
     exec (.pop .bc) s = .next { s with cpu := { s.cpu with b := hi, c := lo, sp := s.cpu.sp + 2 }, cycles := 12 } ∧
     exec (.pop .de) s = .next { s with cpu := { s.cpu with d := hi, e := lo, sp := s.cpu.sp + 2 }, cycles := 12 } ∧
     exec (.pop .hl) s = .next { s with cpu := { s.cpu with h := hi, l := lo, sp := s.cpu.sp + 2 }, cycles := 12 } ∧
     exec (.pop .af) s =
       .next { s with cpu := { s.cpu with a := hi, f := lo &&& 0xF0, sp := s.cpu.sp + 2 }, cycles := 12 })

/-! ## 8-bit arithmetic and logic -/

/-- For ADD (carry-in 0) and ADC (carry-in F.C) with a register, the byte at HL, or an immediate: A gets (A + s +
carry) mod 256, F gets Z when that is 0, N = 0, H when the low nibbles and the carry sum above 15, C when the whole
sum is above 255, and its low nibble 0; 4 cycles with a register, 8 otherwise; nothing else changes. The encodings are
10 000 zzz and 10 001 zzz, C6 n and CE n. -/
def Obligations.AddAndAddWithCarry : Prop :=
  ∀ (r : Reg8) (n : Byte) (s : State),
    EncodedAs (.aluReg .add r) [opByte (0x80 + r.code)] ∧ EncodedAs (.aluAtHL .add) [opByte (0x80 + 6)] ∧
    EncodedAs (.aluImm .add n) [opByte (0x80 + 0x46), n] ∧
    EncodedAs (.aluReg .adc r) [opByte (0x88 + r.code)] ∧ EncodedAs (.aluAtHL .adc) [opByte (0x88 + 6)] ∧
    EncodedAs (.aluImm .adc n) [opByte (0x88 + 0x46), n] ∧
    exec (.aluReg .add r) s = .next (afterAdd s (s.reg8 r) 0 4) ∧
    exec (.aluAtHL .add) s = .next (afterAdd s (memRead s s.hl) 0 8) ∧
    exec (.aluImm .add n) s = .next (afterAdd s n 0 8) ∧
    exec (.aluReg .adc r) s = .next (afterAdd s (s.reg8 r) s.flagC.toNat 4) ∧
    exec (.aluAtHL .adc) s = .next (afterAdd s (memRead s s.hl) s.flagC.toNat 8) ∧
    exec (.aluImm .adc n) s = .next (afterAdd s n s.flagC.toNat 8)

/-- For SUB (borrow-in 0) and SBC (borrow-in F.C) with a register, the byte at HL, or an immediate: A gets (A - s -
borrow) mod 256, F gets Z when that is 0, N = 1, H when A's low nibble is less than s's plus the borrow, C when A is
less than s plus the borrow, and its low nibble 0; 4 cycles with a register, 8 otherwise; nothing else changes. The
encodings are 10 010 zzz and 10 011 zzz, D6 n and DE n. -/
def Obligations.SubtractAndSubtractWithCarry : Prop :=
  ∀ (r : Reg8) (n : Byte) (s : State),
    EncodedAs (.aluReg .sub r) [opByte (0x90 + r.code)] ∧ EncodedAs (.aluAtHL .sub) [opByte (0x90 + 6)] ∧
    EncodedAs (.aluImm .sub n) [opByte (0x90 + 0x46), n] ∧
    EncodedAs (.aluReg .sbc r) [opByte (0x98 + r.code)] ∧ EncodedAs (.aluAtHL .sbc) [opByte (0x98 + 6)] ∧
    EncodedAs (.aluImm .sbc n) [opByte (0x98 + 0x46), n] ∧
    exec (.aluReg .sub r) s = .next (afterSub s (s.reg8 r) 0 4) ∧
    exec (.aluAtHL .sub) s = .next (afterSub s (memRead s s.hl) 0 8) ∧
    exec (.aluImm .sub n) s = .next (afterSub s n 0 8) ∧
    exec (.aluReg .sbc r) s = .next (afterSub s (s.reg8 r) s.flagC.toNat 4) ∧
    exec (.aluAtHL .sbc) s = .next (afterSub s (memRead s s.hl) s.flagC.toNat 8) ∧
    exec (.aluImm .sbc n) s = .next (afterSub s n s.flagC.toNat 8)

/-- For AND, XOR and OR with a register, the byte at HL, or an immediate: A gets the bitwise result and F is
Z:0:H:0:0000 with Z when the result is 0 and H = 1 for AND, 0 for XOR and OR; 4 cycles with a register, 8 otherwise;
nothing else changes. The encodings are 10 100 zzz, 10 101 zzz, 10 110 zzz, E6 n, EE n and F6 n. -/
def Obligations.AndXorOr : Prop :=
  ∀ (r : Reg8) (n : Byte) (s : State),
    let andWith (v : Byte) (k : Nat) := withAF s (s.cpu.a &&& v) (flagByte (decide (s.cpu.a &&& v = 0)) false true false) k
    let xorWith (v : Byte) (k : Nat) := withAF s (s.cpu.a ^^^ v) (flagByte (decide (s.cpu.a ^^^ v = 0)) false false false) k
    let orWith (v : Byte) (k : Nat) := withAF s (s.cpu.a ||| v) (flagByte (decide (s.cpu.a ||| v = 0)) false false false) k
    EncodedAs (.aluReg .and r) [opByte (0xA0 + r.code)] ∧ EncodedAs (.aluAtHL .and) [opByte (0xA0 + 6)] ∧
    EncodedAs (.aluImm .and n) [opByte (0xA0 + 0x46), n] ∧
    EncodedAs (.aluReg .xor r) [opByte (0xA8 + r.code)] ∧ EncodedAs (.aluAtHL .xor) [opByte (0xA8 + 6)] ∧
    EncodedAs (.aluImm .xor n) [opByte (0xA8 + 0x46), n] ∧
    EncodedAs (.aluReg .or r) [opByte (0xB0 + r.code)] ∧ EncodedAs (.aluAtHL .or) [opByte (0xB0 + 6)] ∧
    EncodedAs (.aluImm .or n) [opByte (0xB0 + 0x46), n] ∧
    exec (.aluReg .and r) s = .next (andWith (s.reg8 r) 4) ∧ exec (.aluAtHL .and) s = .next (andWith (memRead s s.hl) 8) ∧
    exec (.aluImm .and n) s = .next (andWith n 8) ∧
    exec (.aluReg .xor r) s = .next (xorWith (s.reg8 r) 4) ∧ exec (.aluAtHL .xor) s = .next (xorWith (memRead s s.hl) 8) ∧
    exec (.aluImm .xor n) s = .next (xorWith n 8) ∧
    exec (.aluReg .or r) s = .next (orWith (s.reg8 r) 4) ∧ exec (.aluAtHL .or) s = .next (orWith (memRead s s.hl) 8) ∧
    exec (.aluImm .or n) s = .next (orWith n 8)

/-- CP with a register, the byte at HL, or an immediate leaves A and every other register and all memory as they were
and writes F whole with Z exactly when A equals s, N = 1, H when A's low nibble is less than s's, C exactly when A is
less than s unsigned; 4 cycles with a register, 8 otherwise. The encodings are 10 111 zzz and FE n. -/
def Obligations.CompareSetsFlagsOnly : Prop :=
  ∀ (r : Reg8) (n : Byte) (s : State),
    let compareWith (v : Byte) (k : Nat) := withAF s s.cpu.a
      (flagByte (decide (s.cpu.a = v)) true (decide (s.cpu.a.toNat % 16 < v.toNat % 16)) (decide (s.cpu.a.toNat < v.toNat))) k
    EncodedAs (.aluReg .cp r) [opByte (0xB8 + r.code)] ∧ EncodedAs (.aluAtHL .cp) [opByte (0xB8 + 6)] ∧
    EncodedAs (.aluImm .cp n) [opByte (0xB8 + 0x46), n] ∧
    exec (.aluReg .cp r) s = .next (compareWith (s.reg8 r) 4) ∧
    exec (.aluAtHL .cp) s = .next (compareWith (memRead s s.hl) 8) ∧
    exec (.aluImm .cp n) s = .next (compareWith n 8)

/-- INC and DEC of a register (00 yyy 100, 00 yyy 101; 4 cycles) or of the byte at HL (34, 35; 12 cycles; one read,
then one write at the same address): the operand is one more or one less modulo 256; Z when the result is 0; N = 0 for
INC and 1 for DEC; H when the operand's low nibble was 15 for INC, 0 for DEC; C unchanged; F's low nibble 0. Nothing
else changes. -/
def Obligations.IncrementAndDecrementByte : Prop :=
  ∀ (r : Reg8) (s : State),
    let incF (v : Byte) := flagByte (decide (v.toNat = 255)) false (decide (v.toNat % 16 = 15)) s.flagC
    let decF (v : Byte) := flagByte (decide (v.toNat = 1)) true (decide (v.toNat % 16 = 0)) s.flagC
    EncodedAs (.incReg r) [opByte (0x04 + 8 * r.code)] ∧ EncodedAs .inc_atHL [0x34] ∧
    EncodedAs (.decReg r) [opByte (0x05 + 8 * r.code)] ∧ EncodedAs .dec_atHL [0x35] ∧
    exec (.incReg r) s = .next { s with
      cpu := { (s.setReg8 r (s.reg8 r + 1)).cpu with f := incF (s.reg8 r) }, cycles := 4 } ∧
    exec (.decReg r) s = .next { s with
      cpu := { (s.setReg8 r (s.reg8 r - 1)).cpu with f := decF (s.reg8 r) }, cycles := 4 } ∧
    exec .inc_atHL s = .next { memWrite s s.hl (memRead s s.hl + 1) with
      cpu := { s.cpu with f := incF (memRead s s.hl) }, cycles := 12 } ∧
    exec .dec_atHL s = .next { memWrite s s.hl (memRead s s.hl - 1) with
      cpu := { s.cpu with f := decF (memRead s s.hl) }, cycles := 12 }

/-- DAA (27): with N = 0 the correction 0x60 applies when C = 1 or A is above 0x99, and 0x06 when H = 1 or A's low
nibble is above 9, both tests on A as it was; A gets A plus the corrections, and C is 1 exactly when 0x60 applied.
With N = 1, A gets A minus 0x60 if C and minus 0x06 if H, and C stays. Z is set from the result, H = 0, N unchanged; 4
cycles; nothing else changes. -/
def Obligations.DecimalAdjust : Prop :=
  ∀ s : State,
    let a := s.cpu.a.toNat
    let high : Bool := s.flagC || decide (a > 0x99)
    let low : Bool := s.flagH || decide (a % 16 > 9)
    let plus := (a + 0x60 * high.toNat + 0x06 * low.toNat) % 256
    let minus := (a + 256 - 0x60 * s.flagC.toNat - 0x06 * s.flagH.toNat) % 256
    EncodedAs .daa [0x27] ∧
    (s.flagN = false → exec .daa s =
      .next (withAF s (BitVec.ofNat 8 plus) (flagByte (decide (plus = 0)) false false high) 4)) ∧
    (s.flagN = true → exec .daa s =
      .next (withAF s (BitVec.ofNat 8 minus) (flagByte (decide (minus = 0)) true false s.flagC) 4))

/-- For all decimal numbers x and y below 100 held packed in A and B: ADD A,B then DAA leaves A the packed sum modulo
100 and C set exactly when the sum is 100 or more; SUB B then DAA leaves A the packed difference modulo 100 and C set
exactly when x is less than y. -/
def Obligations.DecimalAdditionIsRight : Prop :=
  ∀ (s : State) (x y : Fin 100),
    let packed (k : Nat) : Byte := BitVec.ofNat 8 (16 * (k / 10 % 10) + k % 10)
    s.cpu.a = packed x.val → s.cpu.b = packed y.val →
    (∃ t u, exec .add_a_b s = .next t ∧ exec .daa t = .next u ∧ u.cpu.a = packed (x.val + y.val) ∧
      u.flagC = decide (x.val + y.val ≥ 100)) ∧
    (∃ t u, exec .sub_b s = .next t ∧ exec .daa t = .next u ∧ u.cpu.a = packed (x.val + 100 - y.val) ∧
      u.flagC = decide (x.val < y.val))

/-- CPL (2F): A gets its complement (255 - A), N = H = 1, Z and C unchanged. SCF (37): N = H = 0, C = 1, Z unchanged.
CCF (3F): N = H = 0, C inverted, Z unchanged. F's low nibble is 0; 4 cycles; nothing else changes. -/
def Obligations.ComplementAndCarryFlag : Prop :=
  ∀ s : State,
    EncodedAs .cpl [0x2F] ∧ EncodedAs .scf [0x37] ∧ EncodedAs .ccf [0x3F] ∧
    exec .cpl s = .next (withAF s (BitVec.ofNat 8 (255 - s.cpu.a.toNat)) (flagByte s.flagZ true true s.flagC) 4) ∧
    exec .scf s = .next (withAF s s.cpu.a (flagByte s.flagZ false false true) 4) ∧
    exec .ccf s = .next (withAF s s.cpu.a (flagByte s.flagZ false false (!s.flagC)) 4)

/-! ## 16-bit arithmetic -/

/-- ADD HL,rr (00 pp1 001) writes HL + rr mod 65536 to HL, using the old HL for both operands of ADD HL,HL; N = 0, H
is the carry out of bit 11, C the carry out of bit 15, Z unchanged. INC rr (00 pp0 011) and DEC rr (00 pp1 011) move
the pair by one modulo 65536 and write no flag. 8 cycles; nothing else changes. -/
def Obligations.PairArithmetic : Prop :=
  ∀ (p : Reg16) (s : State),
    let sum := BitVec.ofNat 16 (s.hl.toNat + (s.pair p).toNat)
    EncodedAs (.addHLPair p) [opByte (0x09 + 16 * p.code)] ∧ EncodedAs (.incPair p) [opByte (0x03 + 16 * p.code)] ∧
    EncodedAs (.decPair p) [opByte (0x0B + 16 * p.code)] ∧
    exec (.addHLPair p) s = .next { s with
      cpu := { s.cpu with
        h := hiByte sum, l := loByte sum
        f := flagByte s.flagZ false (decide (s.hl.toNat % 4096 + (s.pair p).toNat % 4096 ≥ 4096))
          (decide (s.hl.toNat + (s.pair p).toNat ≥ 65536)) }
      cycles := 8 } ∧
    exec (.incPair p) s = .next { s.setPair p (BitVec.ofNat 16 ((s.pair p).toNat + 1)) with cycles := 8 } ∧
    exec (.decPair p) s = .next { s.setPair p (BitVec.ofNat 16 ((s.pair p).toNat + 65535)) with cycles := 8 }

/-! ## Rotates, shifts and bits -/

/-- RLCA (07) moves A left and bit 7 to C and to bit 0; RRCA (0F) right and bit 0 to C and to bit 7; RLA (17) and RRA
(1F) rotate through C, the old C going in. Z = N = H = 0 whatever the result; 4 cycles; nothing else changes. -/
def Obligations.RotateAccumulator : Prop :=
  ∀ s : State,
    let rotated (op : RotOp) := withAF s (BitVec.ofNat 8 (rotResult op s.cpu.a s.flagC))
      (flagByte false false false (rotCarry op s.cpu.a)) 4
    EncodedAs .rlca [0x07] ∧ EncodedAs .rrca [0x0F] ∧ EncodedAs .rla [0x17] ∧ EncodedAs .rra [0x1F] ∧
    exec .rlca s = .next (rotated .rlc) ∧ exec .rrca s = .next (rotated .rrc) ∧
    exec .rla s = .next (rotated .rl) ∧ exec .rra s = .next (rotated .rr)

/-- For RLC, RRC, RL and RR (CB 00 to CB 1F): the operand moves one place, the bit moved out goes to C, and the bit
moved in is that bit for RLC and RRC, the old C for RL and RR. F is written whole as Z:0:0:C:0000 with Z when the
result is 0. A register takes 8 cycles; the byte at HL is read and written once at the same address, 16 cycles, the
flags from the value read. Nothing else changes. -/
def Obligations.RotateOperand : Prop :=
  ∀ (op : RotOp) (r : Reg8) (s : State), op ∈ ([.rlc, .rrc, .rl, .rr] : List RotOp) →
    let f (v : Byte) := flagByte (decide (rotResult op v s.flagC = 0)) false false (rotCarry op v)
    EncodedAs (.rot op (.reg r)) [0xCB, opByte (8 * op.code + r.code)] ∧
    EncodedAs (.rot op .atHL) [0xCB, opByte (8 * op.code + 6)] ∧
    exec (.rot op (.reg r)) s = .next { s with
      cpu := { (s.setReg8 r (BitVec.ofNat 8 (rotResult op (s.reg8 r) s.flagC))).cpu with f := f (s.reg8 r) }, cycles := 8 } ∧
    exec (.rot op .atHL) s = .next { memWrite s s.hl (BitVec.ofNat 8 (rotResult op (memRead s s.hl) s.flagC)) with
      cpu := { s.cpu with f := f (memRead s s.hl) }, cycles := 16 }

/-- For SLA, SRA, SWAP and SRL (CB 20 to CB 3F): SLA and SRL move in 0, SRA keeps bit 7, SWAP exchanges the nibbles; C
is the bit moved out, 0 for SWAP. F is written whole as Z:0:0:C:0000 with Z when the result is 0. A register takes 8
cycles; the byte at HL is read and written once at the same address, 16 cycles. Nothing else changes. -/
def Obligations.ShiftAndSwapOperand : Prop :=
  ∀ (op : RotOp) (r : Reg8) (s : State), op ∈ ([.sla, .sra, .swap, .srl] : List RotOp) →
    let f (v : Byte) := flagByte (decide (rotResult op v s.flagC = 0)) false false (rotCarry op v)
    EncodedAs (.rot op (.reg r)) [0xCB, opByte (8 * op.code + r.code)] ∧
    EncodedAs (.rot op .atHL) [0xCB, opByte (8 * op.code + 6)] ∧
    exec (.rot op (.reg r)) s = .next { s with
      cpu := { (s.setReg8 r (BitVec.ofNat 8 (rotResult op (s.reg8 r) s.flagC))).cpu with f := f (s.reg8 r) }, cycles := 8 } ∧
    exec (.rot op .atHL) s = .next { memWrite s s.hl (BitVec.ofNat 8 (rotResult op (memRead s s.hl) s.flagC)) with
      cpu := { s.cpu with f := f (memRead s s.hl) }, cycles := 16 }

/-- For every bit number and every operand of BIT (CB 40 to CB 7F): Z is the complement of the tested bit, N = 0, H =
1, C unchanged; 8 cycles for a register, 12 for the byte at HL; no register but F and no byte of memory changes. For
every bit number and every operand of RES (CB 80 to CB BF) and SET (CB C0 to CB FF): the operand is written, also when
the bit already had its value, with exactly that bit cleared or set and every other bit as it was; 8 cycles for a
register, 16 for the byte at HL; no flag and nothing else changes. -/
def Obligations.BitResAndSet : Prop :=
  (∀ (n : Fin 8) (r : Reg8) (s : State),
     EncodedAs (.bit n (.reg r)) [0xCB, opByte (0x40 + 8 * n.val + r.code)] ∧
     EncodedAs (.bit n .atHL) [0xCB, opByte (0x46 + 8 * n.val)] ∧
     exec (.bit n (.reg r)) s =
       .next (withAF s s.cpu.a (flagByte (decide ((s.reg8 r).toNat / 2 ^ n.val % 2 = 0)) false true s.flagC) 8) ∧
     exec (.bit n .atHL) s =
       .next (withAF s s.cpu.a (flagByte (decide ((memRead s s.hl).toNat / 2 ^ n.val % 2 = 0)) false true s.flagC) 12)) ∧
  (∀ (n : Fin 8) (r : Reg8) (s : State), ∃ cleared set : Byte → Byte,
     (∀ (v : Byte) (k : Nat), k < 8 → (cleared v).getLsbD k = (v.getLsbD k && decide (k ≠ n.val)) ∧
       (set v).getLsbD k = (v.getLsbD k || decide (k = n.val))) ∧
     EncodedAs (.res n (.reg r)) [0xCB, opByte (0x80 + 8 * n.val + r.code)] ∧
     EncodedAs (.res n .atHL) [0xCB, opByte (0x86 + 8 * n.val)] ∧
     EncodedAs (.set n (.reg r)) [0xCB, opByte (0xC0 + 8 * n.val + r.code)] ∧
     EncodedAs (.set n .atHL) [0xCB, opByte (0xC6 + 8 * n.val)] ∧
     exec (.res n (.reg r)) s = .next { s.setReg8 r (cleared (s.reg8 r)) with cycles := 8 } ∧
     exec (.set n (.reg r)) s = .next { s.setReg8 r (set (s.reg8 r)) with cycles := 8 } ∧
     exec (.res n .atHL) s = .next { memWrite s s.hl (cleared (memRead s s.hl)) with cpu := s.cpu, cycles := 16 } ∧
     exec (.set n .atHL) s = .next { memWrite s s.hl (set (memRead s s.hl)) with cpu := s.cpu, cycles := 16 })

/-- For every second byte: the two bytes CB op2 decode to the rotate, shift, SWAP, BIT, RES or SET whose fields op2
gives (never to the prefix row, which is not well formed), in one instruction of length 2; the prefix row's own
meaning with that byte is the meaning of the selected instruction, it answers a next state, and its count is 8, 12 or
16. (That the prefix row is a constructor of its own is the model's choice, log entry 6.) -/
def Obligations.ThePrefixRunsTheSelectedInstruction : Prop :=
  ∀ (op2 : Byte) (rest : List Byte) (s : State), ∃ (i : Instr) (t : State),
    decode (0xCB :: op2 :: rest) = .ok (i, rest) ∧ i.WellFormed ∧ ¬(Instr.prefix_cb op2).WellFormed ∧
    (∃ (o : Operand8) (y : Fin 8), o.code = op2.toNat % 8 ∧ y.val = op2.toNat / 8 % 8 ∧
      ((op2.toNat / 64 = 0 ∧ ∃ op : RotOp, op.code = y.val ∧ i = .rot op o) ∨ (op2.toNat / 64 = 1 ∧ i = .bit y o) ∨
       (op2.toNat / 64 = 2 ∧ i = .res y o) ∨ (op2.toNat / 64 = 3 ∧ i = .set y o))) ∧
    exec (.prefix_cb op2) s = exec i s ∧ exec i s = .next t ∧ (t.cycles = 8 ∨ t.cycles = 12 ∨ t.cycles = 16)

/-! ## Jumps, calls and returns. A meaning runs with PC at the next instruction (spec/00_scope.md R13) -/

/-- JP nn (C3) sets PC to nn, 16 cycles; JP HL (E9) to HL, 4 cycles, reading no memory; JR e (18) to the address of
the next instruction plus e signed, modulo 65536, 12 cycles. JP cc,nn (11 0cc 010) and JR cc,e (00 1cc 000) do so when
the condition holds (NZ: Z = 0, Z: Z = 1, NC: C = 0, C: C = 1), 16 and 12 cycles, and otherwise leave PC at the next
instruction, 12 and 8 cycles. No flag, no other register and no memory changes. -/
def Obligations.Jumps : Prop :=
  ∀ (cc : Cond) (e : Byte) (nn : Word) (s : State),
    let holds : Prop := match cc with
      | .nz => s.cpu.f.getLsbD 7 = false | .z => s.cpu.f.getLsbD 7 = true
      | .nc => s.cpu.f.getLsbD 4 = false | .c => s.cpu.f.getLsbD 4 = true
    let goTo (pc : Word) (n : Nat) : State := { s with cpu := { s.cpu with pc := pc }, cycles := n }
    let near := s.cpu.pc + BitVec.ofInt 16 e.toInt
    EncodedAs (.jp_nn nn) [0xC3, loByte nn, hiByte nn] ∧ EncodedAs .jp_hl [0xE9] ∧ EncodedAs (.jr_e e) [0x18, e] ∧
    EncodedAs (.jpCond cc nn) [opByte (0xC2 + 8 * cc.code), loByte nn, hiByte nn] ∧
    EncodedAs (.jrCond cc e) [opByte (0x20 + 8 * cc.code), e] ∧
    exec (.jp_nn nn) s = .next (goTo nn 16) ∧ exec .jp_hl s = .next (goTo s.hl 4) ∧
    exec (.jr_e e) s = .next (goTo near 12) ∧
    (holds → exec (.jpCond cc nn) s = .next (goTo nn 16) ∧ exec (.jrCond cc e) s = .next (goTo near 12)) ∧
    (¬holds → exec (.jpCond cc nn) s = .next { s with cycles := 12 } ∧ exec (.jrCond cc e) s = .next { s with cycles := 8 })

/-- CALL nn (CD) pushes PC, which is the address of the instruction after it, high byte at SP - 1 and low byte at SP -
2, and sets PC to nn, 24 cycles. RST t (11 ttt 111) does the same to 8 × t, 16 cycles. CALL cc,nn (11 0cc 100) does so
when the condition holds, 24 cycles, and otherwise changes neither SP nor PC nor memory, 12 cycles. No flag, IME and
no other register changes. -/
def Obligations.CallsAndRestarts : Prop :=
  ∀ (cc : Cond) (t : Fin 8) (nn : Word) (s : State),
    let holds : Prop := match cc with
      | .nz => s.cpu.f.getLsbD 7 = false | .z => s.cpu.f.getLsbD 7 = true
      | .nc => s.cpu.f.getLsbD 4 = false | .c => s.cpu.f.getLsbD 4 = true
    EncodedAs (.call_nn nn) [0xCD, loByte nn, hiByte nn] ∧ EncodedAs (.rst t) [opByte (0xC7 + 8 * t.val)] ∧
    EncodedAs (.callCond cc nn) [opByte (0xC4 + 8 * cc.code), loByte nn, hiByte nn] ∧
    exec (.call_nn nn) s = .next (afterPush s s.cpu.pc nn 24) ∧
    exec (.rst t) s = .next (afterPush s s.cpu.pc (BitVec.ofNat 16 (8 * t.val)) 16) ∧
    (holds → exec (.callCond cc nn) s = .next (afterPush s s.cpu.pc nn 24)) ∧
    (¬holds → exec (.callCond cc nn) s = .next { s with cycles := 12 })

/-- RET (C9) sets PC to the word at SP, low byte at SP, and SP is 2 more, 16 cycles, IME unchanged. RET cc (11 0cc
000) does so when the condition holds, 20 cycles, and otherwise changes nothing, 8 cycles. RETI (D9) does what RET
does and sets IME to 1 at once, leaving ime_pending as it was, 16 cycles. No flag, no other register and no memory
changes. -/
def Obligations.Returns : Prop :=
  ∀ (cc : Cond) (s : State),
    let holds : Prop := match cc with
      | .nz => s.cpu.f.getLsbD 7 = false | .z => s.cpu.f.getLsbD 7 = true
      | .nc => s.cpu.f.getLsbD 4 = false | .c => s.cpu.f.getLsbD 4 = true
    let popped (n : Nat) : State := { s with cpu := { s.cpu with sp := s.cpu.sp + 2, pc := poppedWord s }, cycles := n }
    EncodedAs .ret [0xC9] ∧ EncodedAs (.retCond cc) [opByte (0xC0 + 8 * cc.code)] ∧ EncodedAs .reti [0xD9] ∧
    exec .ret s = .next (popped 16) ∧
    (holds → exec (.retCond cc) s = .next (popped 20)) ∧
    (¬holds → exec (.retCond cc) s = .next { s with cycles := 8 }) ∧
    exec .reti s = .next { s with
      cpu := { s.cpu with sp := s.cpu.sp + 2, pc := poppedWord s, ime := true }, cycles := 16 }

/-- With well-formed memories and the two stack bytes in WRAM (0xC000 to 0xDFFF) or HRAM (0xFF80 to 0xFFFE): RET
executed in the state a CALL leaves sets PC to the address after the CALL and SP to its old value, and RETI does the
same with IME = 1. -/
def Obligations.ReturnUndoesTheCall : Prop :=
  ∀ (nn : Word) (s : State), MemoriesWf s →
    (∀ a : Word, a = s.cpu.sp - 1 ∨ a = s.cpu.sp - 2 →
      (0xC000 ≤ a.toNat ∧ a.toNat < 0xE000) ∨ (0xFF80 ≤ a.toNat ∧ a.toNat < 0xFFFF)) →
    ∃ t u v, exec (.call_nn nn) s = .next t ∧ exec .ret t = .next u ∧ exec .reti t = .next v ∧
      u.cpu = s.cpu ∧ v.cpu = { s.cpu with ime := true }

/-! ## CPU control, interrupts and the fault -/

/-- NOP (00) changes nothing; HALT (76) sets run to halted; STOP (10 b, any b) sets run to stopped; DI (F3) clears IME
and ime_pending; EI (FB) sets ime_pending and leaves IME; each takes 4 cycles and changes nothing else. (HALT without
the HALT bug, EI's and DI's bookkeeping and STOP's behaviour are the spec's decisions D3, D5 and D6.) -/
def Obligations.ControlInstructions : Prop :=
  ∀ (b : Byte) (s : State),
    EncodedAs .nop [0x00] ∧ EncodedAs .halt [0x76] ∧ EncodedAs (.stop b) [0x10, b] ∧ EncodedAs .di [0xF3] ∧
    EncodedAs .ei [0xFB] ∧
    exec .nop s = .next { s with cycles := 4 } ∧
    exec .halt s = .next { s with cpu := { s.cpu with run := .halted }, cycles := 4 } ∧
    exec (.stop b) s = .next { s with cpu := { s.cpu with run := .stopped }, cycles := 4 } ∧
    exec .di s = .next { s with cpu := { s.cpu with ime := false, imePending := false }, cycles := 4 } ∧
    exec .ei s = .next { s with cpu := { s.cpu with imePending := true }, cycles := 4 }

/-- For every instruction and every state in which its meaning answers a next state: IME is as before unless it is DI
or RETI, ime_pending is as before unless it is DI or EI, and run is as before unless it is HALT or STOP (the prefix
row with any second byte counts as none of these). (The life of ime_pending is the spec's decision D5, and the stopped
state is D6.) -/
def Obligations.OnlyControlInstructionsTouchControlState : Prop :=
  ∀ (i : Instr) (s t : State), exec i s = .next t →
    (i ≠ .di → i ≠ .reti → t.cpu.ime = s.cpu.ime) ∧
    (i ≠ .di → i ≠ .ei → t.cpu.imePending = s.cpu.imePending) ∧
    (i ≠ .halt → (∀ b, i ≠ .stop b) → t.cpu.run = s.cpu.run)

/-- At a boundary that fetches, let i be the instruction at PC and t the state the CPU step answers. With ime_pending
= 1, IME is 1 in t unless i is DI. With ime_pending = 0, IME in t is as before unless i is DI or RETI. If i is DI, IME
and ime_pending are 0 in t. ime_pending in t is 1 exactly when i is EI. So the boundary after EI still has the old
IME, and the boundary after the following instruction has IME = 1. (The life of ime_pending is the spec's decision D5,
and that a HALT that wakes fetches in the same step is D4.) -/
def Obligations.EnableInterruptsIsDelayed : Prop :=
  ∀ (s t : State), Executes s → cpuStep s = .next t →
    (s.cpu.imePending = true → fetchInstr s ≠ .di → t.cpu.ime = true) ∧
    (s.cpu.imePending = false → fetchInstr s ≠ .di → fetchInstr s ≠ .reti → t.cpu.ime = s.cpu.ime) ∧
    (fetchInstr s = .di → t.cpu.ime = false ∧ t.cpu.imePending = false) ∧
    (t.cpu.imePending = true ↔ fetchInstr s = .ei)

/-- In a live machine that is not stopped, with IME = 1 and n the least of 0 to 4 with bit n set in both IE and IF:
the step pushes PC (high byte at SP - 1, low byte at SP - 2) after clearing bit n of IF, sets IME and ime_pending to
0, run to running, PC to 0x40 + 8 × n and SP to 2 less, takes 20 cycles and executes no instruction; A, F, B, C, D, E,
H, L, IE and everything else the two stores do not reach is unchanged; then the rest of the tick follows. (That a
dispatch is a step of its own is the spec's decision D2, that it clears ime_pending is D5, and that bits 0 to 4 count,
bit 3 like the others, is D7 and D34.) -/
def Obligations.InterruptIsTaken : Prop :=
  ∀ (s : State) (n : Nat), Live s → s.cpu.run ≠ .stopped → s.cpu.ime = true → n < 5 →
    s.ieReg.getLsbD n = true → s.ifReg.getLsbD n = true →
    (∀ m, m < n → (s.ieReg.getLsbD m && s.ifReg.getLsbD m) = false) →
    step s = .next (afterCpuStep
      { memWrite (memWrite { s with ifReg := s.ifReg &&& ~~~((1 : Byte) <<< n) } (s.cpu.sp - 1) (hiByte s.cpu.pc))
          (s.cpu.sp - 2) (loByte s.cpu.pc) with
        cpu := { s.cpu with
          ime := false, imePending := false, run := .running, sp := s.cpu.sp - 2, pc := BitVec.ofNat 16 (0x40 + 8 * n) }
        cycles := 20 })

/-- An interrupt is to be taken at a boundary exactly when IME = 1 and some bit of 0 to 4 is set in both IE and IF; it
is then the lowest such bit. No interrupt is pending, the test HALT waits on, exactly when no bit of 0 to 4 is set in
both. So bits 5 to 7 of IE and IF never matter. (That only bits 0 to 4 count is the spec's decision D7, and that bit 3
is like the others is D34; log entry 11.) -/
def Obligations.NoInterruptWithoutEnableAndRequest : Prop :=
  (∀ (s : State) (n : Nat), interruptToTake s = some n ↔
    s.cpu.ime = true ∧ n < 5 ∧ (s.ieReg.getLsbD n && s.ifReg.getLsbD n) = true ∧
      ∀ m, m < n → (s.ieReg.getLsbD m && s.ifReg.getLsbD m) = false) ∧
  (∀ s : State, s.pending = 0 ↔ ∀ m, m < 5 → (s.ieReg.getLsbD m && s.ifReg.getLsbD m) = false)

/-- In a live machine: halted with no pending interrupt, or stopped whatever IE, IF and IME hold, the step fetches
nothing, changes nothing in the CPU and accesses no memory; the rest of the tick follows with 4 cycles. In a live
machine, halted with IME = 0 and some interrupt pending: the step is the step of the same state with run = running, so
the instruction after the HALT is fetched and executed once in it, nothing is pushed and IF keeps the request. (The
stopped state, that the HALT bug is not modelled and that the same step fetches are the spec's decisions D6, D3 and
D4.) -/
def Obligations.HaltIdlesAndWakesStopIdles : Prop :=
  (∀ s : State, Live s → ((s.cpu.run = .halted ∧ s.pending = 0) ∨ s.cpu.run = .stopped) →
     step s = .next (afterCpuStep { s with cycles := 4 })) ∧
  (∀ s : State, Live s → s.cpu.run = .halted → s.cpu.ime = false → s.pending ≠ 0 →
     Executes s ∧ step s = step { s with cpu := { s.cpu with run := .running } })

/-- At a boundary that fetches, with one of the eleven undefined bytes at PC: the step faults with PC and the byte;
the state left is the one before the step with only the fault recorded (the timer and the PPU not advanced, PC and
ime_pending as before); and every step of that state faults the same way and changes nothing. (The terminal fault is
the spec's decision D8; that a step of a faulted state answers the fault again is the model's choice, log entry 4.) -/
def Obligations.UndefinedOpcodeEndsTheRun : Prop :=
  ∀ s : State, Executes s →
    memRead s s.cpu.pc ∈ ([0xD3, 0xDB, 0xDD, 0xE3, 0xE4, 0xEB, 0xEC, 0xED, 0xF4, 0xFC, 0xFD] : List Byte) →
    let t : State := { s with fault := some { pc := s.cpu.pc, byte := memRead s s.cpu.pc } }
    step s = .fault (.unknownOpcode s.cpu.pc (memRead s s.cpu.pc)) ∧ stateAfter s = t ∧
    step t = .fault (.unknownOpcode s.cpu.pc (memRead s s.cpu.pc)) ∧ stateAfter t = t

/-- A step of a machine with no fault recorded and not ended by the host answers a next state, unless the boundary
fetches and the byte at PC is one of the eleven undefined opcodes. No step is ever refused but in a run the host has
ended. (That a run ends by the fault or by quit and not otherwise is the spec's decisions D8 and D35. How the end of a
run by the host and the fault are shown is the model's choice, log entries 3 and 4.) -/
def Obligations.StepStopsOnlyForTheSpecsReasons : Prop :=
  (∀ s : State, Live s →
    ¬(Executes s ∧
      memRead s s.cpu.pc ∈ ([0xD3, 0xDB, 0xDD, 0xE3, 0xE4, 0xEB, 0xEC, 0xED, 0xF4, 0xFC, 0xFD] : List Byte)) →
    ∃ t, step s = .next t) ∧
  (∀ (s : State) (r : Refusal), step s = .refused r → s.ended = true ∧ r = .runEnded)

/-- In a live machine whose CPU step answers u: let p be u after the timer and then the PPU have each advanced by the
count the CPU step returned. If p has no frame ready the frame part changes nothing; if it has, the flag is cleared
and the buttons are set to the host's next set, exactly one of which is used up. If the host has requested quit the
run is marked ended and no later step runs; otherwise the tick ends there. (The queue and count of button sets and the
end mark are the model's own, log entries 1 and 3.) -/
def Obligations.TickRunsCpuThenTimerThenPpu : Prop :=
  ∀ s u : State, Live s → cpuStep s = .next u →
    let p := ppuAdvance u.cycles (timerAdvance u.cycles u)
    let q := if p.ppu.frameReady = true then
        setButtons (p.inputs.headD (Config.hostButtons p.frames))
          { p with ppu := { p.ppu with frameReady := false }, frames := p.frames + 1, inputs := p.inputs.tail }
      else p
    (q.quitRequested = false → step s = .next q) ∧
    (q.quitRequested = true → step s = .next { q with ended := true } ∧
      (q.fault = none → step { q with ended := true } = .refused .runEnded))

/-! ## Memory and the I/O registers -/

/-- A read returns the cartridge's byte below 0x8000, VRAM at 0x8000 to 0x9FFF, external RAM at 0xA000 to 0xBFFF, WRAM
at 0xC000 to 0xDFFF and again at 0xE000 to 0xFDFF, OAM at 0xFE00 to 0xFE9F, 0xFF at 0xFEA0 to 0xFEFF, an I/O register
at 0xFF00 to 0xFF7F, HRAM at 0xFF80 to 0xFFFE and IE at 0xFFFF. A write goes to the bank controller below 0x8000, to
VRAM, external RAM, WRAM, WRAM again through Echo, OAM, nothing at 0xFEA0 to 0xFEFF, an I/O register, HRAM or IE, in
the ranges of the reads; it changes that and nothing else. -/
def Obligations.AddressSpaceDispatch : Prop :=
  (∀ (s : State) (a : Word),
     (a.toNat ≤ 0x7FFF → memRead s a = cartRead s a.toNat) ∧
     (0x8000 ≤ a.toNat → a.toNat ≤ 0x9FFF → memRead s a = s.vram.read (a.toNat - 0x8000)) ∧
     (0xA000 ≤ a.toNat → a.toNat ≤ 0xBFFF → memRead s a = extRamRead s (a.toNat - 0xA000)) ∧
     (0xC000 ≤ a.toNat → a.toNat ≤ 0xDFFF → memRead s a = s.wram.read (a.toNat - 0xC000)) ∧
     (0xE000 ≤ a.toNat → a.toNat ≤ 0xFDFF → memRead s a = s.wram.read (a.toNat - 0xE000)) ∧
     (0xFE00 ≤ a.toNat → a.toNat ≤ 0xFE9F → memRead s a = s.oam.read (a.toNat - 0xFE00)) ∧
     (0xFEA0 ≤ a.toNat → a.toNat ≤ 0xFEFF → memRead s a = 0xFF) ∧
     (0xFF00 ≤ a.toNat → a.toNat ≤ 0xFF7F → memRead s a = ioRead s (ioRegAt (a.toNat - 0xFF00))) ∧
     (0xFF80 ≤ a.toNat → a.toNat ≤ 0xFFFE → memRead s a = s.hram.read (a.toNat - 0xFF80)) ∧
     (a.toNat = 0xFFFF → memRead s a = s.ieReg)) ∧
  (∀ (s : State) (a : Word) (v : Byte),
     (a.toNat ≤ 0x7FFF → memWrite s a v = cartWrite s a.toNat v) ∧
     (0x8000 ≤ a.toNat → a.toNat ≤ 0x9FFF → memWrite s a v = { s with vram := s.vram.write (a.toNat - 0x8000) v }) ∧
     (0xA000 ≤ a.toNat → a.toNat ≤ 0xBFFF → memWrite s a v = extRamWrite s (a.toNat - 0xA000) v) ∧
     (0xC000 ≤ a.toNat → a.toNat ≤ 0xDFFF → memWrite s a v = { s with wram := s.wram.write (a.toNat - 0xC000) v }) ∧
     (0xE000 ≤ a.toNat → a.toNat ≤ 0xFDFF → memWrite s a v = { s with wram := s.wram.write (a.toNat - 0xE000) v }) ∧
     (0xFE00 ≤ a.toNat → a.toNat ≤ 0xFE9F → memWrite s a v = { s with oam := s.oam.write (a.toNat - 0xFE00) v }) ∧
     (0xFEA0 ≤ a.toNat → a.toNat ≤ 0xFEFF → memWrite s a v = s) ∧
     (0xFF00 ≤ a.toNat → a.toNat ≤ 0xFF7F → memWrite s a v = ioWrite s (ioRegAt (a.toNat - 0xFF00)) v) ∧
     (0xFF80 ≤ a.toNat → a.toNat ≤ 0xFFFE → memWrite s a v = { s with hram := s.hram.write (a.toNat - 0xFF80) v }) ∧
     (a.toNat = 0xFFFF → memWrite s a v = { s with ieReg := v }))

/-- Reading 0xFF00 gives 11, the two select bits and the nibble; 0xFF04 the divider's upper byte; 0xFF05, 06, 07 TIMA,
TMA, TAC; 0xFF0F IF; 0xFF40 LCDC; 0xFF41 STAT's stored bits, the coincidence and the mode's number; 0xFF42 to 0xFF4B
SCY, SCX, LY, LYC, DMA, BGP, OBP0, OBP1, WY, WX; every other address of the page below 0xFF80 its byte of plain
storage. Writing 0xFF00 records bits 5 and 4 as the select bits; 0xFF04 clears the 16-bit divider; 0xFF05, 06, 07, 0F,
40, 42, 43, 45, 47, 48, 49, 4A, 4B set their register whole; 0xFF41 sets STAT's bits 7 to 3; 0xFF44 does nothing;
0xFF46 sets DMA and starts the copy; every other address of the page below 0xFF80 sets its byte of plain storage. Each
changes nothing else. (The addresses the source does not give are the spec's decision D30, and the copy inside the
write of 0xFF46 is D22.) -/
def Obligations.IoRegistersAsTabled : Prop :=
  (∀ s : State,
     memRead s 0xFF00 = BitVec.ofNat 8
       (192 + 32 * s.joy.sel5.toNat + 16 * s.joy.sel4.toNat + s.joy.nibble.toNat) ∧
     (memRead s 0xFF04).toNat = s.timer.divider.toNat / 256 ∧ memRead s 0xFF05 = s.timer.tima ∧
     memRead s 0xFF06 = s.timer.tma ∧ memRead s 0xFF07 = s.timer.tac ∧ memRead s 0xFF0F = s.ifReg ∧
     memRead s 0xFF40 = s.ppu.lcdc ∧
     (memRead s 0xFF41).toNat = 8 * s.ppu.statHi.toNat + 4 * s.ppu.coincidence.toNat +
       (match s.ppu.mode with | .hblank => 0 | .vblank => 1 | .oamScan => 2 | .drawing => 3) ∧
     memRead s 0xFF42 = s.ppu.scy ∧ memRead s 0xFF43 = s.ppu.scx ∧ memRead s 0xFF44 = s.ppu.ly ∧
     memRead s 0xFF45 = s.ppu.lyc ∧ memRead s 0xFF46 = s.dma ∧ memRead s 0xFF47 = s.ppu.bgp ∧
     memRead s 0xFF48 = s.ppu.obp0 ∧ memRead s 0xFF49 = s.ppu.obp1 ∧ memRead s 0xFF4A = s.ppu.wy ∧
     memRead s 0xFF4B = s.ppu.wx ∧
     (∀ o : Nat, o < 0x80 → o ∉ ([0x00, 0x04, 0x05, 0x06, 0x07, 0x0F] : List Nat) → (o < 0x40 ∨ 0x4C ≤ o) →
       memRead s (BitVec.ofNat 16 (0xFF00 + o)) = s.io.read o)) ∧
  (∀ (s : State) (v : Byte),
     memWrite s 0xFF00 v = { s with joy := { s.joy with sel5 := v.getLsbD 5, sel4 := v.getLsbD 4 } } ∧
     memWrite s 0xFF04 v = { s with timer := { s.timer with divider := 0 } } ∧
     memWrite s 0xFF05 v = { s with timer := { s.timer with tima := v } } ∧
     memWrite s 0xFF06 v = { s with timer := { s.timer with tma := v } } ∧
     memWrite s 0xFF07 v = { s with timer := { s.timer with tac := v } } ∧
     memWrite s 0xFF0F v = { s with ifReg := v } ∧
     memWrite s 0xFF40 v = { s with ppu := { s.ppu with lcdc := v } } ∧
     memWrite s 0xFF41 v = { s with ppu := { s.ppu with statHi := BitVec.ofNat 5 (v.toNat / 8) } } ∧
     memWrite s 0xFF42 v = { s with ppu := { s.ppu with scy := v } } ∧
     memWrite s 0xFF43 v = { s with ppu := { s.ppu with scx := v } } ∧
     memWrite s 0xFF44 v = s ∧
     memWrite s 0xFF45 v = { s with ppu := { s.ppu with lyc := v } } ∧
     memWrite s 0xFF46 v = oamDma v { s with dma := v } ∧
     memWrite s 0xFF47 v = { s with ppu := { s.ppu with bgp := v } } ∧
     memWrite s 0xFF48 v = { s with ppu := { s.ppu with obp0 := v } } ∧
     memWrite s 0xFF49 v = { s with ppu := { s.ppu with obp1 := v } } ∧
     memWrite s 0xFF4A v = { s with ppu := { s.ppu with wy := v } } ∧
     memWrite s 0xFF4B v = { s with ppu := { s.ppu with wx := v } } ∧
     (∀ o : Nat, o < 0x80 → o ∉ ([0x00, 0x04, 0x05, 0x06, 0x07, 0x0F] : List Nat) → (o < 0x40 ∨ 0x4C ≤ o) →
       memWrite s (BitVec.ofNat 16 (0xFF00 + o)) v = { s with io := s.io.write o v }))

/-- With well-formed memories, a byte written at an address of VRAM, WRAM, Echo, OAM, plain I/O storage (0xFF01 to
0xFF03, 0xFF08 to 0xFF0E, 0xFF10 to 0xFF3F and 0xFF4C to 0xFF7F), HRAM or IE reads back as written at that address, in
every PPU mode; and a byte written to WRAM below 0xDE00 reads the same through the Echo address 0x2000 above, and one
written through Echo at the WRAM address 0x2000 below. (That the I/O addresses without a register are plain storage is
the spec's decision D9, and that the Echo mirrors WRAM is D31: log entry 11.) -/
def Obligations.WrittenMemoryReadsBack : Prop :=
  ∀ (s : State) (a : Word) (v : Byte), MemoriesWf s →
    ((0xC000 ≤ a.toNat ∧ a.toNat ≤ 0xFE9F) ∨ (0xFF80 ≤ a.toNat ∧ a.toNat ≤ 0xFFFF) ∨ (0x8000 ≤ a.toNat ∧ a.toNat ≤ 0x9FFF) ∨
      (0xFF01 ≤ a.toNat ∧ a.toNat ≤ 0xFF03) ∨ (0xFF08 ≤ a.toNat ∧ a.toNat ≤ 0xFF0E) ∨ (0xFF10 ≤ a.toNat ∧ a.toNat ≤ 0xFF3F) ∨
      (0xFF4C ≤ a.toNat ∧ a.toNat ≤ 0xFF7F) → memRead (memWrite s a v) a = v) ∧
    (0xC000 ≤ a.toNat → a.toNat ≤ 0xDDFF → memRead (memWrite s a v) (a + 0x2000) = v) ∧
    (0xE000 ≤ a.toNat → a.toNat ≤ 0xFDFF → memRead (memWrite s a v) (a - 0x2000) = v)

/-- After a byte store at address a, every address b that the store does not reach reads as before; the CPU's
registers, the cartridge, the fault record and the host's state are unchanged; and if a is not in the I/O page, the
timer, the PPU, the joypad, IF and DMA are unchanged too. (The Echo, DMA inside the write and the cartridge's mapping
are the spec's decisions D31, D22, D23 and D24.) -/
def Obligations.StoreLeavesOtherBytesAlone : Prop :=
  ∀ (s : State) (a b : Word) (v : Byte),
    (storeReaches s a b = false → memRead (memWrite s a v) b = memRead s b) ∧
    (memWrite s a v).cpu = s.cpu ∧ (memWrite s a v).cart = s.cart ∧ (memWrite s a v).fault = s.fault ∧
    (memWrite s a v).inputs = s.inputs ∧ (memWrite s a v).frames = s.frames ∧
    (memWrite s a v).quitRequested = s.quitRequested ∧ (memWrite s a v).ended = s.ended ∧
    (a.toNat < 0xFF00 ∨ 0xFF80 ≤ a.toNat → (memWrite s a v).timer = s.timer ∧ (memWrite s a v).ppu = s.ppu ∧
      (memWrite s a v).joy = s.joy ∧ (memWrite s a v).ifReg = s.ifReg ∧ (memWrite s a v).dma = s.dma)

/-- With OAM well formed: after the write of v to 0xFF46, DMA is v, and for every i below 160 byte i of OAM is what a
read of address 256 × v + i gave with DMA already v; nothing but DMA and OAM changes. (The copy inside the write, from
any page, is the spec's decision D22.) -/
def Obligations.OamDmaCopiesThePage : Prop :=
  ∀ (s : State) (v : Byte), s.oam.wf 160 = true →
    (∀ i : Nat, i < 160 → (memWrite s 0xFF46 v).oam.read i =
      memRead { s with dma := v } (BitVec.ofNat 16 (256 * v.toNat + i))) ∧
    ∃ m : Memory, memWrite s 0xFF46 v = { s with dma := v, oam := m } ∧ m.wf 160 = true

/-- For an address x below 0x8000: NoMBC shows image byte x; MBC1 shows, below 0x4000, bank 0, or in mode 1 bank
(bank_hi × 32) mod rom_banks, and above, bank (bank_hi × 32 + bank_lo) mod rom_banks; past the image's end the read is
0xFF. External RAM shows cell (bank × 0x2000 + offset) mod ram_bytes, bank being bank_hi under MBC1 in mode 1 and 0
otherwise; a read with no RAM, or under MBC1 with it disabled, is 0xFF and such a write changes nothing. A write below
0x8000 changes nothing under NoMBC, and under MBC1 sets ram_enable, bank_lo (0 stored as 1), bank_hi or mode by its
range, and nothing else. (D23, D24 and D31 are the spec's decisions.) -/
def Obligations.BankControllerMapsTheCartridge : Prop :=
  ∀ (s : State) (x o : Nat) (v : Byte), x < 0x8000 → o < 0x2000 →
    let image (k : Nat) : Byte := if k < s.cart.romSize then s.cart.rom.read k else 0xFF
    let low : Nat := if s.mbc.mode then s.mbc.bankHi.toNat * 32 % s.cart.romBanks else 0
    let high : Nat := (s.mbc.bankHi.toNat * 32 + s.mbc.bankLo.toNat) % s.cart.romBanks
    let ramCell (bank : Nat) : Nat := (bank * 0x2000 + o) % s.cart.ramBytes
    let bank : Nat := if s.mbc.mode then s.mbc.bankHi.toNat else 0
    (s.cart.kind = .noMbc → cartRead s x = image x ∧ cartWrite s x v = s ∧
      (s.cart.ramBytes ≠ 0 → extRamRead s o = s.extRam.read (ramCell 0) ∧
        extRamWrite s o v = { s with extRam := s.extRam.write (ramCell 0) v })) ∧
    (s.cart.kind = .mbc1 →
      cartRead s x = (if x < 0x4000 then image (low * 0x4000 + x) else image (high * 0x4000 + (x - 0x4000))) ∧
      cartWrite s x v = { s with mbc :=
        if x < 0x2000 then { s.mbc with ramEnable := decide (v.toNat % 16 = 10) }
        else if x < 0x4000 then
          { s.mbc with bankLo := BitVec.ofNat 5 (if v.toNat % 32 = 0 then 1 else v.toNat % 32) }
        else if x < 0x6000 then { s.mbc with bankHi := BitVec.ofNat 2 (v.toNat % 4) }
        else { s.mbc with mode := decide (v.toNat % 2 = 1) } } ∧
      (s.cart.ramBytes ≠ 0 → s.mbc.ramEnable = true → extRamRead s o = s.extRam.read (ramCell bank) ∧
        extRamWrite s o v = { s with extRam := s.extRam.write (ramCell bank) v })) ∧
    (s.cart.ramBytes = 0 ∨ (s.cart.kind = .mbc1 ∧ s.mbc.ramEnable = false) →
      extRamRead s o = 0xFF ∧ extRamWrite s o v = s)

/-! ## The timer -/

/-- An advance by c adds c to the 16-bit divider. With TAC bit 2 clear nothing else changes. With it set and p = 1024,
16, 64 or 256 by TAC bits 1 to 0, TIMA is incremented k = (tacc + c) / p times and tacc is the remainder: if 255 -
TIMA is at least k, TIMA is k more and IF is unchanged; otherwise IF bit 2 is set, and TIMA is TMA plus the remaining
increments modulo the reload period 256 - TMA. Nothing else changes. And an advance by a followed by one by b is one
advance by a + b, so it makes no difference how a run of cycles is cut into steps. (D11 and D12 are the spec's
decisions; the closed form of its loop is log entry 14.) -/
def Obligations.TimerAdvance : Prop :=
  (∀ (s : State) (c : Nat),
     let p : Nat := match s.timer.tac.toNat % 4 with | 0 => 1024 | 1 => 16 | 2 => 64 | _ => 256
     let k := (s.timer.tacc + c) / p
     let room := 255 - s.timer.tima.toNat
     let div := BitVec.ofNat 16 (s.timer.divider.toNat + c)
     (s.timer.tac.getLsbD 2 = false → timerAdvance c s = { s with timer := { s.timer with divider := div } }) ∧
     (s.timer.tac.getLsbD 2 = true → k ≤ room → timerAdvance c s = { s with timer := { s.timer with
       divider := div, tacc := (s.timer.tacc + c) % p, tima := BitVec.ofNat 8 (s.timer.tima.toNat + k) } }) ∧
     (s.timer.tac.getLsbD 2 = true → room < k → timerAdvance c s = { s with
       timer := { s.timer with
         divider := div, tacc := (s.timer.tacc + c) % p
         tima := BitVec.ofNat 8 (s.timer.tma.toNat + (k - room - 1) % (256 - s.timer.tma.toNat)) }
       ifReg := s.ifReg ||| 4 })) ∧
  (∀ (s : State) (a b : Nat), timerAdvance b (timerAdvance a s) = timerAdvance (a + b) s)

/-! ## The joypad -/

/-- Line k of the nibble is 0 exactly when directions are selected (bit 4 = 0) and Right, Left, Up or Down (k = 0 to
3) is pressed, or actions are selected (bit 5 = 0) and A, B, Select or Start is pressed. Setting the buttons changes
the pressed set; sets IF bit 4 exactly when some line goes from 1 to 0, and no other bit of IF; makes a stopped CPU
running exactly when some button is pressed; and changes nothing else. (D6 and D21 are the spec's decisions.) -/
def Obligations.JoypadNibbleAndRequests : Prop :=
  (∀ j : Joypad,
    (j.nibble.getLsbD 0 = false ↔ (j.sel4 = false ∧ j.pressed.right = true) ∨ (j.sel5 = false ∧ j.pressed.a = true)) ∧
    (j.nibble.getLsbD 1 = false ↔ (j.sel4 = false ∧ j.pressed.left = true) ∨ (j.sel5 = false ∧ j.pressed.b = true)) ∧
    (j.nibble.getLsbD 2 = false ↔ (j.sel4 = false ∧ j.pressed.up = true) ∨ (j.sel5 = false ∧ j.pressed.select = true)) ∧
    (j.nibble.getLsbD 3 = false ↔ (j.sel4 = false ∧ j.pressed.down = true) ∨ (j.sel5 = false ∧ j.pressed.start = true))) ∧
  (∀ (s : State) (b : Buttons),
    let new := { s.joy with pressed := b }
    let falls : Prop := ∃ k, k < 4 ∧ s.joy.nibble.getLsbD k = true ∧ new.nibble.getLsbD k = false
    ∃ (f : Byte) (r : RunState), setButtons b s = { s with joy := new, ifReg := f, cpu := { s.cpu with run := r } } ∧
      (falls → f = s.ifReg ||| 0x10) ∧ (¬falls → f = s.ifReg) ∧
      (s.cpu.run = .stopped ∧ b ≠ noButtons → r = .running) ∧ (¬(s.cpu.run = .stopped ∧ b ≠ noButtons) → r = s.cpu.run))

/-! ## The PPU -/

/-- With LCDC bit 7 clear a tick sets LY, dot and win_line to 0 and the mode to HBlank, and changes nothing else. With
it set and the position well formed: the position moves on by one of 70224; a line of 0 to 143 is rendered exactly
when dot becomes 252; the coincidence becomes (LY = LYC) of the new LY; a frame becomes ready exactly on entry to line
144; IF gains bit 0 exactly then, bit 1 exactly on entry to HBlank with STAT bit 3, to VBlank with bit 4, to OAMScan
with bit 5, or on a rising coincidence with bit 6, and no other bit; the mode is Drawing when dot becomes 80 of a
visible line, HBlank at 252, VBlank on entry to line 144, OAMScan on entry to a visible line, and otherwise as before;
the PPU's registers are unchanged. (D13, D14, D15 and D28 are the spec's decisions.) -/
def Obligations.PpuTickByPosition : Prop :=
  (∀ s : State, s.ppu.lcdc.getLsbD 7 = false →
    ppuTick s = { s with ppu := { s.ppu with ly := 0, dot := 0, mode := .hblank, winLine := 0 } }) ∧
  (∀ s : State, s.ppu.lcdc.getLsbD 7 = true → ScanWf s.ppu →
    let ends : Bool := decide (s.ppu.dot = 455)
    let ly : Nat := if ends then (s.ppu.ly.toNat + 1) % 154 else s.ppu.ly.toNat
    let toDrawing : Bool := decide (s.ppu.ly.toNat < 144 ∧ s.ppu.dot = 79)
    let toHBlank : Bool := decide (s.ppu.ly.toNat < 144 ∧ s.ppu.dot = 251)
    let toVBlank : Bool := ends && decide (ly = 144)
    let toOamScan : Bool := ends && decide (ly < 144)
    let coincides : Bool := decide (ly = s.ppu.lyc.toNat)
    let stat : Bool := (toHBlank && s.ppu.statHi.getLsbD 0) || (toVBlank && s.ppu.statHi.getLsbD 1) ||
      (toOamScan && s.ppu.statHi.getLsbD 2) || (coincides && !s.ppu.coincidence && s.ppu.statHi.getLsbD 3)
    let drawn : Ppu := if toHBlank then (renderLine s).ppu else s.ppu
    let mode : PpuMode := if toDrawing then .drawing else if toHBlank then .hblank else if toVBlank then .vblank
      else if toOamScan then .oamScan else s.ppu.mode
    ppuTick s = { s with
      ifReg := s.ifReg ||| (if toVBlank then 1 else 0) ||| (if stat then 2 else 0)
      ppu := { s.ppu with
        ly := BitVec.ofNat 8 ly
        dot := (if ends then 0 else s.ppu.dot + 1)
        mode := mode
        coincidence := coincides
        winLine := (if ends && decide (ly = 0) then 0 else drawn.winLine)
        fb := drawn.fb
        frameReady := s.ppu.frameReady || toVBlank } })

/-- From every well-formed position with LCDC bit 7 set, and for every c: after c PPU ticks the position LY × 456 +
dot is the old one plus c modulo 70224, and the position is well formed again; so after 456 ticks LY is one more
modulo 154 at the same dot, and after 70224 ticks LY and dot are as they were. (The exact mode lengths are the spec's
decision D13, and where the position starts after the LCD was off is D14.) -/
def Obligations.LinesTake456AndFrames70224 : Prop :=
  ∀ s : State, s.ppu.lcdc.getLsbD 7 = true → ScanWf s.ppu →
    (∀ c : Nat, ScanWf (ppuAdvance c s).ppu ∧
      framePosition (ppuAdvance c s).ppu = (framePosition s.ppu + c) % 70224) ∧
    (ppuAdvance 456 s).ppu.ly.toNat = (s.ppu.ly.toNat + 1) % 154 ∧ (ppuAdvance 456 s).ppu.dot = s.ppu.dot ∧
    (ppuAdvance 70224 s).ppu.ly = s.ppu.ly ∧ (ppuAdvance 70224 s).ppu.dot = s.ppu.dot

/-- RenderLine changes only row LY of the framebuffer and win_line, which counts the lines that draw the window; cell
x of the row is the pixel's shade, which with sprites off is the shade under the sprites. The index under the sprites
is: where the window is on the line (LCDC bit 5, WX at most 166, WY at most LY) and x is at least WX - 7, the window's
tile pixel at (x + 7 - WX, win_line); else with LCDC bit 0 the background's tile pixel at ((SCX + x) mod 256, (SCY +
LY) mod 256); else 0. Its shade is BGP's for that index, or 0 where neither is drawn. A tile pixel at (px, py) of a
map is taken from the map entry of column px / 8 and row py / 8, row py mod 8 of its tile (at 0x8000 unsigned or
0x9000 signed by LCDC bit 4), bit 7 - px mod 8 of the row's second byte over that of its first. (D15, D16, D17 and D20
are the spec's decisions.) -/
def Obligations.BackgroundAndWindowPixels : Prop :=
  ∀ (s : State) (x : Nat), FramebufferWf s.ppu → s.ppu.ly.toNat < 144 → x < 160 →
    let bit (v : Byte) (k : Nat) : Nat := v.toNat / 2 ^ k % 2
    let tile (base px py : Nat) : Nat :=
      let id := (s.vram.read (base + 32 * (py / 8) + px / 8)).toNat
      let start := if s.ppu.lcdc.getLsbD 4 then id * 16 else if id < 128 then 0x1000 + id * 16 else id * 16
      let row := start + 2 * (py % 8)
      2 * bit (s.vram.read (row + 1)) (7 - px % 8) + bit (s.vram.read row) (7 - px % 8)
    let windowOn : Bool :=
      s.ppu.lcdc.getLsbD 5 && decide (s.ppu.wx.toNat ≤ 166) && decide (s.ppu.wy.toNat ≤ s.ppu.ly.toNat)
    let windowHere : Bool := windowOn && decide (s.ppu.wx.toNat ≤ x + 7)
    let windowMap := if s.ppu.lcdc.getLsbD 6 then 0x1C00 else 0x1800
    let backgroundMap := if s.ppu.lcdc.getLsbD 3 then 0x1C00 else 0x1800
    let index : Nat :=
      if windowHere then tile windowMap (x + 7 - s.ppu.wx.toNat) s.ppu.winLine.toNat
      else if s.ppu.lcdc.getLsbD 0 then
        tile backgroundMap ((s.ppu.scx.toNat + x) % 256) ((s.ppu.scy.toNat + s.ppu.ly.toNat) % 256)
      else 0
    (bgIndex s x).toNat = index ∧
    (bgShade s x).toNat = (if windowHere || s.ppu.lcdc.getLsbD 0 then s.ppu.bgp.toNat / 2 ^ (2 * index) % 4 else 0) ∧
    (s.ppu.lcdc.getLsbD 1 = false → pixelShade s x = bgShade s x) ∧
    ((renderLine s).ppu.fb.getD s.ppu.ly.toNat []).getD x 0 = pixelShade s x ∧
    ∃ (fb : List (List (BitVec 2))) (w : Byte), renderLine s = { s with ppu := { s.ppu with fb := fb, winLine := w } } ∧
      (∀ y : Nat, y ≠ s.ppu.ly.toNat → fb.getD y [] = s.ppu.fb.getD y []) ∧
      w = s.ppu.winLine + (if windowOn then 1 else 0)

/-- The sprites of a line are the first ten OAM entries, in OAM order, whose Y range holds the line; the priority list
is those entries, each once, ordered by X and then by index. With sprites on, the shade of a column is that of the
first entry of the list that is drawn there, and where none is it is the shade under the sprites. An entry is drawn at
column x when X - 8 <= x < X, its colour index there (row and column counted from the other end under attribute bits 6
and 5; tile bit 0 ignored for 16-row sprites) is not 0, and attribute bit 7 is clear or the index under the sprites is
0; its shade is that of OBP1 or OBP0 by attribute bit 4. (D18, D19 and D20 are the spec's decisions.) -/
def Obligations.SpriteSelectionAndPriority : Prop :=
  ∀ (s : State) (x : Nat),
    let oam (i k : Nat) : Nat := (s.oam.read (4 * i + k)).toNat
    let height : Nat := if s.ppu.lcdc.getLsbD 2 then 16 else 8
    let onLine (i : Nat) : Bool := decide (oam i 0 ≤ s.ppu.ly.toNat + 16 ∧ s.ppu.ly.toNat + 16 < oam i 0 + height)
    let before (i j : Nat) : Prop := oam i 1 < oam j 1 ∨ (oam i 1 = oam j 1 ∧ i < j)
    let bit (v k : Nat) : Nat := v / 2 ^ k % 2
    let index (i : Nat) : Nat :=
      let row := if bit (oam i 3) 6 = 1 then height - 1 - (s.ppu.ly.toNat + 16 - oam i 0) else s.ppu.ly.toNat + 16 - oam i 0
      let column := if bit (oam i 3) 5 = 1 then 7 - (x + 8 - oam i 1) else x + 8 - oam i 1
      let first := (if height = 16 then oam i 2 / 2 * 2 else oam i 2) * 16 + 2 * row
      2 * bit (s.vram.read (first + 1)).toNat (7 - column) + bit (s.vram.read first).toNat (7 - column)
    let drawn (i : Nat) : Bool := decide (oam i 1 ≤ x + 8 ∧ x < oam i 1 ∧ index i ≠ 0 ∧
      (bit (oam i 3) 7 = 0 ∨ bgIndex s x = 0))
    (sortedSprites s).Perm (((List.range 40).filter onLine).take 10) ∧ (sortedSprites s).Pairwise before ∧
    (s.ppu.lcdc.getLsbD 1 = true → (pixelShade s x).toNat =
      match (sortedSprites s).find? drawn with
      | some i => (if bit (oam i 3) 4 = 1 then s.ppu.obp1 else s.ppu.obp0).toNat / 2 ^ (2 * index i) % 4
      | none => (bgShade s x).toNat)

/-! ## Reset, construction, and what every step keeps -/

/-- After reset: A 01, F B0, B 00, C 13, D 00, E D8, H 01, L 4D, SP FFFE, PC 0100, IME 0, ime_pending 0, running, no
fault; LCDC 91, BGP FC, STAT reads 06, P1 reads FF, IF and IE 00, the divider, tacc, TIMA, TMA, TAC 0, every other I/O
register 00, dot 0, win_line 0, no frame ready, the framebuffer 144 rows of 160 zeros; VRAM, WRAM, OAM, HRAM and
external RAM read 00 everywhere; MBC1's registers 0, 1, 0, 0; nothing pressed; and all this whatever cartridge is in
the slot. (Values beyond the source's own are the spec's decision D10; the blank cartridge of the model's reset state
is log entry 2.) -/
def Obligations.ResetLeavesTheSpecsValues : Prop :=
  ∀ c : Cart,
    let s := State.resetWith c
    State.reset = State.resetWith Cart.blank ∧
    s.cpu = {
      a := 0x01, f := 0xB0, b := 0x00, c := 0x13, d := 0x00, e := 0xD8, h := 0x01, l := 0x4D
      sp := 0xFFFE, pc := 0x0100, ime := false, imePending := false, run := .running } ∧
    s.fault = none ∧ s.timer = { divider := 0, tacc := 0, tima := 0, tma := 0, tac := 0 } ∧
    memRead s 0xFF40 = 0x91 ∧ memRead s 0xFF47 = 0xFC ∧ memRead s 0xFF41 = 0x06 ∧ memRead s 0xFF00 = 0xFF ∧
    (∀ o : Nat, o < 0x80 → o ≠ 0x00 → o ≠ 0x40 → o ≠ 0x41 → o ≠ 0x47 → memRead s (BitVec.ofNat 16 (0xFF00 + o)) = 0x00) ∧
    memRead s 0xFFFF = 0x00 ∧
    s.ppu.dot = 0 ∧ s.ppu.winLine = 0 ∧ s.ppu.frameReady = false ∧
    s.ppu.fb = List.replicate 144 (List.replicate 160 0) ∧
    (∀ o : Nat, s.vram.read o = 0 ∧ s.wram.read o = 0 ∧ s.oam.read o = 0 ∧ s.hram.read o = 0 ∧ s.extRam.read o = 0) ∧
    s.mbc = { ramEnable := false, bankLo := 1, bankHi := 0, mode := false } ∧ s.joy.pressed = noButtons ∧ s.cart = c

/-- Construction from an image of bytes answers a machine exactly when the image has at least 0x150 bytes, every title
byte is below 0x80, the checksum over 0x134 to 0x14C equals byte 0x14D, the type is 00, 01, 02, 03, 08 or 09, the ROM-
size code at most 8 and the RAM-size code at most 3. The machine is then the reset state with the image in the slot,
MBC1 exactly for types 01 to 03, 2 << n banks, and 0, 2048, 8192 or 32768 bytes of RAM; and with at most 32 KiB under
NoMBC its reads below 0x8000 give the image's bytes, and 0xFF past its end. (D10, D24 and D25 are the spec's
decisions; the order of the checks is the model's, log entry 19.) -/
def Obligations.ConstructionChecksTheHeader : Prop :=
  ∀ image : List Byte,
    let at_ (k : Nat) : Nat := (image.getD k 0).toNat
    let checksum : Nat := ((List.range 25).map fun k => 512 - at_ (0x134 + k) - 1).sum % 256
    let valid : Prop := 0x150 ≤ image.length ∧ (∀ k, k < 16 → at_ (0x134 + k) < 128) ∧ checksum = at_ 0x14D ∧
      at_ 0x147 ∈ ([0x00, 0x01, 0x02, 0x03, 0x08, 0x09] : List Nat) ∧ at_ 0x148 ≤ 8 ∧ at_ 0x149 ≤ 3
    (¬valid → ∃ r, construct image = .error r) ∧
    (valid → ∃ s, construct image = .ok s ∧ s = State.resetWith s.cart ∧ s.cart.romSize = image.length ∧
      (∀ k : Nat, k < image.length → s.cart.rom.read k = image.getD k 0) ∧
      (s.cart.kind = .mbc1 ↔ at_ 0x147 ∈ ([0x01, 0x02, 0x03] : List Nat)) ∧
      s.cart.romBanks = 2 * 2 ^ at_ 0x148 ∧ s.cart.ramBytes = ([0, 2048, 8192, 32768] : List Nat).getD (at_ 0x149) 0 ∧
      (s.cart.kind = .noMbc → ∀ a : Word, a.toNat < 0x8000 → memRead s a = image.getD a.toNat 0xFF))

/-- The invariant (memories in canonical form and within their sizes, F's low nibble 0, bank_lo not 0, the scan
position and mode consistent, the framebuffer 144 rows of 160, the timer's accumulator below its period while enabled,
no frame waiting) holds of State.reset and of every machine that construction answers. (The reset values the source
does not give are the spec's decisions D10, D23 and D24.) -/
def Obligations.ResetIsWellFormed : Prop :=
  Inv State.reset ∧ ∀ (image : List Byte) (s : State), construct image = .ok s → Inv s

/-- For every state with the invariant, whatever instruction, interrupt or idle period the step is: if the step
answers a next state, that state has it too: canonical memories, F's low nibble 0, bank_lo not 0, LY below 154 and dot
below 456 with the mode that belongs there (VBlank exactly on lines 144 to 153, Drawing exactly on dots 80 to 251 of a
visible line), a framebuffer of 144 rows of 160, the timer's accumulator below its period while enabled, and no frame
waiting. (The exact mode lengths, the LCD off, the bank controller and the frame within the tick are the spec's
decisions D13, D14, D23 and D29.) -/
def Obligations.EveryStepKeepsTheInvariant : Prop :=
  ∀ s t : State, Inv s → step s = .next t → Inv t

/-- For every state: if a step answers a next state, the cartridge in the slot, its image, its length, its kind and
its sizes, is the same; no fault is recorded in that state, and the quit flag is as before. (The terminal fault and
the end of a run are the spec's decisions D8 and D35. How the host's quit and the end of the run are held, and how the
fault is shown, are the model's choices: log entries 3 and 4.) -/
def Obligations.NoStepChangesTheCartridge : Prop :=
  ∀ s t : State, step s = .next t → t.cart = s.cart ∧ t.fault = none ∧ t.quitRequested = s.quitRequested
end

