-- ==== Sys2Proof/Laws/Memory.lean ====
section
/-! SUPPORT. What one array of bytes does: a read after a write at the same offset and elsewhere, and that every write keeps
the canonical form. -/

namespace Sys2Proof.Machine

/-- A canonical array from `lo` on reads as unlisted below `lo`. -/
theorem Memory.read_below (m : Memory) {lo size o : Nat} (h : Memory.wfFrom lo size m = true) (ho : o < lo) :
    m.read o = Memory.unlisted := by
  induction m generalizing lo with
  | nil => rfl
  | cons p m ih =>
    obtain ⟨k, v⟩ := p
    simp only [Memory.wfFrom, Bool.and_eq_true, decide_eq_true_eq] at h
    rw [Memory.read, if_neg (by omega)]
    exact ih h.2 (by omega)

/-- Writing somewhere else leaves an offset alone. -/
theorem Memory.read_write_other (m : Memory) {o o' : Nat} (v : Byte) (h : o' ≠ o) : (m.write o v).read o' = m.read o' := by
  induction m with
  | nil => by_cases hv : v = Memory.unlisted <;> simp [Memory.write, Memory.read, hv, Ne.symm h]
  | cons p m ih =>
    obtain ⟨k, w⟩ := p
    simp only [Memory.write]
    split
    · split <;> simp [Memory.read, Ne.symm h]
    · split
      · rename_i hk
        subst hk
        split <;> simp [Memory.read, Ne.symm h]
      · simp only [Memory.read, ih]

/-- A written offset reads as written. -/
theorem Memory.read_write_same (m : Memory) {lo size o : Nat} (v : Byte) (h : Memory.wfFrom lo size m = true) :
    (m.write o v).read o = v := by
  induction m generalizing lo with
  | nil => by_cases hv : v = Memory.unlisted <;> simp [Memory.write, Memory.read, hv]
  | cons p m ih =>
    obtain ⟨k, w⟩ := p
    simp only [Memory.wfFrom, Bool.and_eq_true, decide_eq_true_eq] at h
    simp only [Memory.write]
    split
    · rename_i hlt
      split
      · rename_i hv
        rw [Memory.read, if_neg (by omega), Memory.read_below m h.2 (by omega), hv]
      · simp [Memory.read]
    · split
      · rename_i hk
        split
        · rename_i hv
          rw [Memory.read_below m h.2 (by omega), hv]
        · simp [Memory.read]
      · rename_i hne
        rw [Memory.read, if_neg (Ne.symm hne)]
        exact ih h.2

/-- A write keeps the canonical form. -/
theorem Memory.write_wfFrom (m : Memory) {lo size o : Nat} (v : Byte) (h : Memory.wfFrom lo size m = true) (hlo : lo ≤ o)
    (ho : o < size) : Memory.wfFrom lo size (m.write o v) = true := by
  induction m generalizing lo with
  | nil => by_cases hv : v = Memory.unlisted <;> simp [Memory.write, Memory.wfFrom, hv, hlo, ho]
  | cons p m ih =>
    obtain ⟨k, w⟩ := p
    have h' := h
    simp only [Memory.wfFrom, Bool.and_eq_true, decide_eq_true_eq] at h
    have weaken : ∀ (m : Memory) (a b : Nat), a ≤ b → Memory.wfFrom b size m = true → Memory.wfFrom a size m = true := by
      intro m a b hab hm
      cases m with
      | nil => rfl
      | cons p m =>
        simp only [Memory.wfFrom, Bool.and_eq_true, decide_eq_true_eq] at hm ⊢
        exact ⟨⟨⟨by omega, hm.1.1.2⟩, hm.1.2⟩, hm.2⟩
    simp only [Memory.write]
    split
    · rename_i hlt
      split
      · exact h'
      · rename_i hv
        simp only [Memory.wfFrom, Bool.and_eq_true, decide_eq_true_eq]
        exact ⟨⟨⟨hlo, ho⟩, hv⟩, ⟨⟨by omega, h.1.1.2⟩, h.1.2⟩, h.2⟩
    · split
      · rename_i hk
        split
        · exact weaken m lo (k + 1) (by omega) h.2
        · rename_i hv
          simp only [Memory.wfFrom, Bool.and_eq_true, decide_eq_true_eq]
          exact ⟨⟨⟨hlo, ho⟩, hv⟩, hk ▸ h.2⟩
      · simp only [Memory.wfFrom, Bool.and_eq_true, decide_eq_true_eq]
        exact ⟨h.1, ih h.2 (by omega)⟩

/-- A write within an array's size keeps its canonical form. -/
theorem Memory.write_wf {m : Memory} {size o : Nat} (v : Byte) (h : m.wf size = true) (ho : o < size) :
    (m.write o v).wf size = true := Memory.write_wfFrom m v h (Nat.zero_le o) ho

/-- Two canonical arrays that read alike everywhere are the same list. -/
theorem Memory.ext_of_read {m m' : Memory} {lo size size' : Nat} (h : Memory.wfFrom lo size m = true)
    (h' : Memory.wfFrom lo size' m' = true) (hr : ∀ o, m.read o = m'.read o) : m = m' := by
  induction m generalizing lo m' with
  | nil =>
    cases m' with
    | nil => rfl
    | cons p m' =>
      simp only [Memory.wfFrom, Bool.and_eq_true, decide_eq_true_eq] at h'
      have := hr p.1
      simp [Memory.read] at this
      exact absurd this.symm h'.1.2
  | cons p m ih =>
    obtain ⟨k, v⟩ := p
    cases m' with
    | nil =>
      simp only [Memory.wfFrom, Bool.and_eq_true, decide_eq_true_eq] at h
      have := hr k
      simp [Memory.read] at this
      exact absurd this h.1.2
    | cons q m' =>
      obtain ⟨k', v'⟩ := q
      have hm := h
      have hm' := h'
      simp only [Memory.wfFrom, Bool.and_eq_true, decide_eq_true_eq] at h h'
      have hk : k = k' := by
        rcases Nat.lt_trichotomy k k' with hlt | heq | hgt
        · have h1 := hr k
          rw [Memory.read, if_pos rfl, Memory.read, if_neg (by omega), Memory.read_below m' h'.2 (by omega)] at h1
          exact absurd h1 h.1.2
        · exact heq
        · have h1 := hr k'
          rw [Memory.read, if_neg (by omega), Memory.read_below m h.2 (by omega), Memory.read, if_pos rfl] at h1
          exact absurd h1.symm h'.1.2
      subst hk
      have hv : v = v' := by simpa [Memory.read] using hr k
      subst hv
      have : m = m' := by
        refine ih h.2 h'.2 fun o => ?_
        by_cases ho : k = o
        · rw [Memory.read_below m h.2 (by omega), Memory.read_below m' h'.2 (by omega)]
        · simpa [Memory.read, ho] using hr o
      rw [this]

/-- The array of a list of bytes is canonical. -/
theorem Memory.ofBytesFrom_wf (bytes : List Byte) (o : Nat) :
    ∀ size, o + bytes.length ≤ size → Memory.wfFrom o size (Memory.ofBytesFrom o bytes) = true := by
  induction bytes generalizing o with
  | nil => intro size _; rfl
  | cons v vs ih =>
    intro size hs
    simp only [List.length_cons] at hs
    have hrest := ih (o + 1) size (by omega)
    simp only [Memory.ofBytesFrom]
    split
    · revert hrest
      generalize Memory.ofBytesFrom (o + 1) vs = m
      intro hrest
      cases m with
      | nil => rfl
      | cons p m =>
        simp only [Memory.wfFrom, Bool.and_eq_true, decide_eq_true_eq] at hrest ⊢
        exact ⟨⟨⟨by omega, hrest.1.1.2⟩, hrest.1.2⟩, hrest.2⟩
    · rename_i hv
      simp only [Memory.wfFrom, Bool.and_eq_true, decide_eq_true_eq]
      exact ⟨⟨⟨by omega, by omega⟩, hv⟩, hrest⟩

/-- The array of a list of bytes is canonical within the list's length. -/
theorem Memory.ofBytes_wf (bytes : List Byte) : (Memory.ofBytes bytes).wf bytes.length = true :=
  Memory.ofBytesFrom_wf bytes 0 _ (by omega)

/-- The array of a list of bytes reads as the list. -/
theorem Memory.read_ofBytesFrom (bytes : List Byte) (o k : Nat) :
    (Memory.ofBytesFrom o bytes).read (o + k) = bytes.getD k Memory.unlisted := by
  induction bytes generalizing o k with
  | nil => simp [Memory.ofBytesFrom, Memory.read]
  | cons v vs ih =>
    cases k with
    | zero =>
      simp only [Memory.ofBytesFrom]
      split
      · rename_i hv
        rw [Memory.read_below _ (Memory.ofBytesFrom_wf vs (o + 1) _ (Nat.le_refl _)) (by omega)]
        simp [hv]
      · simp [Memory.read]
    | succ k =>
      have h1 : o + (k + 1) = (o + 1) + k := by omega
      simp only [Memory.ofBytesFrom]
      split
      · rw [h1, ih]
        simp
      · rw [Memory.read, if_neg (by omega), h1, ih]
        simp

theorem Memory.read_ofBytes (bytes : List Byte) (k : Nat) :
    (Memory.ofBytes bytes).read k = bytes.getD k Memory.unlisted := by
  simpa [Memory.ofBytes] using Memory.read_ofBytesFrom bytes 0 k

end Sys2Proof.Machine
end

