-- ==== Sys2Proof/Laws/State.lean ====
section
/-! SUPPORT. One lemma for each field of State under each register update of Machine/Ops.lean, so that no proof unfolds a
record update: what the update leaves alone, and what it writes. Then the round trips of the byte and pair accessors. -/

namespace Sys2Proof.Machine

/-! ## What every register update leaves alone -/

@[simp] theorem State.setReg8_timer (s : State) (r : Reg8) (v : Byte) : (s.setReg8 r v).timer = s.timer := by cases r <;> rfl
@[simp] theorem State.setReg8_ppu (s : State) (r : Reg8) (v : Byte) : (s.setReg8 r v).ppu = s.ppu := by cases r <;> rfl
@[simp] theorem State.setReg8_joy (s : State) (r : Reg8) (v : Byte) : (s.setReg8 r v).joy = s.joy := by cases r <;> rfl
@[simp] theorem State.setReg8_ifReg (s : State) (r : Reg8) (v : Byte) : (s.setReg8 r v).ifReg = s.ifReg := by cases r <;> rfl
@[simp] theorem State.setReg8_ieReg (s : State) (r : Reg8) (v : Byte) : (s.setReg8 r v).ieReg = s.ieReg := by cases r <;> rfl
@[simp] theorem State.setReg8_dma (s : State) (r : Reg8) (v : Byte) : (s.setReg8 r v).dma = s.dma := by cases r <;> rfl
@[simp] theorem State.setReg8_mbc (s : State) (r : Reg8) (v : Byte) : (s.setReg8 r v).mbc = s.mbc := by cases r <;> rfl
@[simp] theorem State.setReg8_cart (s : State) (r : Reg8) (v : Byte) : (s.setReg8 r v).cart = s.cart := by cases r <;> rfl
@[simp] theorem State.setReg8_vram (s : State) (r : Reg8) (v : Byte) : (s.setReg8 r v).vram = s.vram := by cases r <;> rfl
@[simp] theorem State.setReg8_extRam (s : State) (r : Reg8) (v : Byte) : (s.setReg8 r v).extRam = s.extRam := by cases r <;> rfl
@[simp] theorem State.setReg8_wram (s : State) (r : Reg8) (v : Byte) : (s.setReg8 r v).wram = s.wram := by cases r <;> rfl
@[simp] theorem State.setReg8_oam (s : State) (r : Reg8) (v : Byte) : (s.setReg8 r v).oam = s.oam := by cases r <;> rfl
@[simp] theorem State.setReg8_io (s : State) (r : Reg8) (v : Byte) : (s.setReg8 r v).io = s.io := by cases r <;> rfl
@[simp] theorem State.setReg8_hram (s : State) (r : Reg8) (v : Byte) : (s.setReg8 r v).hram = s.hram := by cases r <;> rfl
@[simp] theorem State.setReg8_fault (s : State) (r : Reg8) (v : Byte) : (s.setReg8 r v).fault = s.fault := by cases r <;> rfl
@[simp] theorem State.setReg8_cycles (s : State) (r : Reg8) (v : Byte) : (s.setReg8 r v).cycles = s.cycles := by cases r <;> rfl
@[simp] theorem State.setReg8_inputs (s : State) (r : Reg8) (v : Byte) : (s.setReg8 r v).inputs = s.inputs := by cases r <;> rfl
@[simp] theorem State.setReg8_frames (s : State) (r : Reg8) (v : Byte) : (s.setReg8 r v).frames = s.frames := by cases r <;> rfl
@[simp] theorem State.setReg8_quitRequested (s : State) (r : Reg8) (v : Byte) : (s.setReg8 r v).quitRequested = s.quitRequested := by cases r <;> rfl
@[simp] theorem State.setReg8_ended (s : State) (r : Reg8) (v : Byte) : (s.setReg8 r v).ended = s.ended := by cases r <;> rfl

@[simp] theorem State.setA_timer (s : State) (v : Byte) : (s.setA v).timer = s.timer := rfl
@[simp] theorem State.setA_ppu (s : State) (v : Byte) : (s.setA v).ppu = s.ppu := rfl
@[simp] theorem State.setA_joy (s : State) (v : Byte) : (s.setA v).joy = s.joy := rfl
@[simp] theorem State.setA_ifReg (s : State) (v : Byte) : (s.setA v).ifReg = s.ifReg := rfl
@[simp] theorem State.setA_ieReg (s : State) (v : Byte) : (s.setA v).ieReg = s.ieReg := rfl
@[simp] theorem State.setA_dma (s : State) (v : Byte) : (s.setA v).dma = s.dma := rfl
@[simp] theorem State.setA_mbc (s : State) (v : Byte) : (s.setA v).mbc = s.mbc := rfl
@[simp] theorem State.setA_cart (s : State) (v : Byte) : (s.setA v).cart = s.cart := rfl
@[simp] theorem State.setA_vram (s : State) (v : Byte) : (s.setA v).vram = s.vram := rfl
@[simp] theorem State.setA_extRam (s : State) (v : Byte) : (s.setA v).extRam = s.extRam := rfl
@[simp] theorem State.setA_wram (s : State) (v : Byte) : (s.setA v).wram = s.wram := rfl
@[simp] theorem State.setA_oam (s : State) (v : Byte) : (s.setA v).oam = s.oam := rfl
@[simp] theorem State.setA_io (s : State) (v : Byte) : (s.setA v).io = s.io := rfl
@[simp] theorem State.setA_hram (s : State) (v : Byte) : (s.setA v).hram = s.hram := rfl
@[simp] theorem State.setA_fault (s : State) (v : Byte) : (s.setA v).fault = s.fault := rfl
@[simp] theorem State.setA_cycles (s : State) (v : Byte) : (s.setA v).cycles = s.cycles := rfl
@[simp] theorem State.setA_inputs (s : State) (v : Byte) : (s.setA v).inputs = s.inputs := rfl
@[simp] theorem State.setA_frames (s : State) (v : Byte) : (s.setA v).frames = s.frames := rfl
@[simp] theorem State.setA_quitRequested (s : State) (v : Byte) : (s.setA v).quitRequested = s.quitRequested := rfl
@[simp] theorem State.setA_ended (s : State) (v : Byte) : (s.setA v).ended = s.ended := rfl

@[simp] theorem State.setF_timer (s : State) (v : Byte) : (s.setF v).timer = s.timer := rfl
@[simp] theorem State.setF_ppu (s : State) (v : Byte) : (s.setF v).ppu = s.ppu := rfl
@[simp] theorem State.setF_joy (s : State) (v : Byte) : (s.setF v).joy = s.joy := rfl
@[simp] theorem State.setF_ifReg (s : State) (v : Byte) : (s.setF v).ifReg = s.ifReg := rfl
@[simp] theorem State.setF_ieReg (s : State) (v : Byte) : (s.setF v).ieReg = s.ieReg := rfl
@[simp] theorem State.setF_dma (s : State) (v : Byte) : (s.setF v).dma = s.dma := rfl
@[simp] theorem State.setF_mbc (s : State) (v : Byte) : (s.setF v).mbc = s.mbc := rfl
@[simp] theorem State.setF_cart (s : State) (v : Byte) : (s.setF v).cart = s.cart := rfl
@[simp] theorem State.setF_vram (s : State) (v : Byte) : (s.setF v).vram = s.vram := rfl
@[simp] theorem State.setF_extRam (s : State) (v : Byte) : (s.setF v).extRam = s.extRam := rfl
@[simp] theorem State.setF_wram (s : State) (v : Byte) : (s.setF v).wram = s.wram := rfl
@[simp] theorem State.setF_oam (s : State) (v : Byte) : (s.setF v).oam = s.oam := rfl
@[simp] theorem State.setF_io (s : State) (v : Byte) : (s.setF v).io = s.io := rfl
@[simp] theorem State.setF_hram (s : State) (v : Byte) : (s.setF v).hram = s.hram := rfl
@[simp] theorem State.setF_fault (s : State) (v : Byte) : (s.setF v).fault = s.fault := rfl
@[simp] theorem State.setF_cycles (s : State) (v : Byte) : (s.setF v).cycles = s.cycles := rfl
@[simp] theorem State.setF_inputs (s : State) (v : Byte) : (s.setF v).inputs = s.inputs := rfl
@[simp] theorem State.setF_frames (s : State) (v : Byte) : (s.setF v).frames = s.frames := rfl
@[simp] theorem State.setF_quitRequested (s : State) (v : Byte) : (s.setF v).quitRequested = s.quitRequested := rfl
@[simp] theorem State.setF_ended (s : State) (v : Byte) : (s.setF v).ended = s.ended := rfl

@[simp] theorem State.setAF_timer (s : State) (v : Word) : (s.setAF v).timer = s.timer := rfl
@[simp] theorem State.setAF_ppu (s : State) (v : Word) : (s.setAF v).ppu = s.ppu := rfl
@[simp] theorem State.setAF_joy (s : State) (v : Word) : (s.setAF v).joy = s.joy := rfl
@[simp] theorem State.setAF_ifReg (s : State) (v : Word) : (s.setAF v).ifReg = s.ifReg := rfl
@[simp] theorem State.setAF_ieReg (s : State) (v : Word) : (s.setAF v).ieReg = s.ieReg := rfl
@[simp] theorem State.setAF_dma (s : State) (v : Word) : (s.setAF v).dma = s.dma := rfl
@[simp] theorem State.setAF_mbc (s : State) (v : Word) : (s.setAF v).mbc = s.mbc := rfl
@[simp] theorem State.setAF_cart (s : State) (v : Word) : (s.setAF v).cart = s.cart := rfl
@[simp] theorem State.setAF_vram (s : State) (v : Word) : (s.setAF v).vram = s.vram := rfl
@[simp] theorem State.setAF_extRam (s : State) (v : Word) : (s.setAF v).extRam = s.extRam := rfl
@[simp] theorem State.setAF_wram (s : State) (v : Word) : (s.setAF v).wram = s.wram := rfl
@[simp] theorem State.setAF_oam (s : State) (v : Word) : (s.setAF v).oam = s.oam := rfl
@[simp] theorem State.setAF_io (s : State) (v : Word) : (s.setAF v).io = s.io := rfl
@[simp] theorem State.setAF_hram (s : State) (v : Word) : (s.setAF v).hram = s.hram := rfl
@[simp] theorem State.setAF_fault (s : State) (v : Word) : (s.setAF v).fault = s.fault := rfl
@[simp] theorem State.setAF_cycles (s : State) (v : Word) : (s.setAF v).cycles = s.cycles := rfl
@[simp] theorem State.setAF_inputs (s : State) (v : Word) : (s.setAF v).inputs = s.inputs := rfl
@[simp] theorem State.setAF_frames (s : State) (v : Word) : (s.setAF v).frames = s.frames := rfl
@[simp] theorem State.setAF_quitRequested (s : State) (v : Word) : (s.setAF v).quitRequested = s.quitRequested := rfl
@[simp] theorem State.setAF_ended (s : State) (v : Word) : (s.setAF v).ended = s.ended := rfl

@[simp] theorem State.setBC_timer (s : State) (v : Word) : (s.setBC v).timer = s.timer := rfl
@[simp] theorem State.setBC_ppu (s : State) (v : Word) : (s.setBC v).ppu = s.ppu := rfl
@[simp] theorem State.setBC_joy (s : State) (v : Word) : (s.setBC v).joy = s.joy := rfl
@[simp] theorem State.setBC_ifReg (s : State) (v : Word) : (s.setBC v).ifReg = s.ifReg := rfl
@[simp] theorem State.setBC_ieReg (s : State) (v : Word) : (s.setBC v).ieReg = s.ieReg := rfl
@[simp] theorem State.setBC_dma (s : State) (v : Word) : (s.setBC v).dma = s.dma := rfl
@[simp] theorem State.setBC_mbc (s : State) (v : Word) : (s.setBC v).mbc = s.mbc := rfl
@[simp] theorem State.setBC_cart (s : State) (v : Word) : (s.setBC v).cart = s.cart := rfl
@[simp] theorem State.setBC_vram (s : State) (v : Word) : (s.setBC v).vram = s.vram := rfl
@[simp] theorem State.setBC_extRam (s : State) (v : Word) : (s.setBC v).extRam = s.extRam := rfl
@[simp] theorem State.setBC_wram (s : State) (v : Word) : (s.setBC v).wram = s.wram := rfl
@[simp] theorem State.setBC_oam (s : State) (v : Word) : (s.setBC v).oam = s.oam := rfl
@[simp] theorem State.setBC_io (s : State) (v : Word) : (s.setBC v).io = s.io := rfl
@[simp] theorem State.setBC_hram (s : State) (v : Word) : (s.setBC v).hram = s.hram := rfl
@[simp] theorem State.setBC_fault (s : State) (v : Word) : (s.setBC v).fault = s.fault := rfl
@[simp] theorem State.setBC_cycles (s : State) (v : Word) : (s.setBC v).cycles = s.cycles := rfl
@[simp] theorem State.setBC_inputs (s : State) (v : Word) : (s.setBC v).inputs = s.inputs := rfl
@[simp] theorem State.setBC_frames (s : State) (v : Word) : (s.setBC v).frames = s.frames := rfl
@[simp] theorem State.setBC_quitRequested (s : State) (v : Word) : (s.setBC v).quitRequested = s.quitRequested := rfl
@[simp] theorem State.setBC_ended (s : State) (v : Word) : (s.setBC v).ended = s.ended := rfl

@[simp] theorem State.setDE_timer (s : State) (v : Word) : (s.setDE v).timer = s.timer := rfl
@[simp] theorem State.setDE_ppu (s : State) (v : Word) : (s.setDE v).ppu = s.ppu := rfl
@[simp] theorem State.setDE_joy (s : State) (v : Word) : (s.setDE v).joy = s.joy := rfl
@[simp] theorem State.setDE_ifReg (s : State) (v : Word) : (s.setDE v).ifReg = s.ifReg := rfl
@[simp] theorem State.setDE_ieReg (s : State) (v : Word) : (s.setDE v).ieReg = s.ieReg := rfl
@[simp] theorem State.setDE_dma (s : State) (v : Word) : (s.setDE v).dma = s.dma := rfl
@[simp] theorem State.setDE_mbc (s : State) (v : Word) : (s.setDE v).mbc = s.mbc := rfl
@[simp] theorem State.setDE_cart (s : State) (v : Word) : (s.setDE v).cart = s.cart := rfl
@[simp] theorem State.setDE_vram (s : State) (v : Word) : (s.setDE v).vram = s.vram := rfl
@[simp] theorem State.setDE_extRam (s : State) (v : Word) : (s.setDE v).extRam = s.extRam := rfl
@[simp] theorem State.setDE_wram (s : State) (v : Word) : (s.setDE v).wram = s.wram := rfl
@[simp] theorem State.setDE_oam (s : State) (v : Word) : (s.setDE v).oam = s.oam := rfl
@[simp] theorem State.setDE_io (s : State) (v : Word) : (s.setDE v).io = s.io := rfl
@[simp] theorem State.setDE_hram (s : State) (v : Word) : (s.setDE v).hram = s.hram := rfl
@[simp] theorem State.setDE_fault (s : State) (v : Word) : (s.setDE v).fault = s.fault := rfl
@[simp] theorem State.setDE_cycles (s : State) (v : Word) : (s.setDE v).cycles = s.cycles := rfl
@[simp] theorem State.setDE_inputs (s : State) (v : Word) : (s.setDE v).inputs = s.inputs := rfl
@[simp] theorem State.setDE_frames (s : State) (v : Word) : (s.setDE v).frames = s.frames := rfl
@[simp] theorem State.setDE_quitRequested (s : State) (v : Word) : (s.setDE v).quitRequested = s.quitRequested := rfl
@[simp] theorem State.setDE_ended (s : State) (v : Word) : (s.setDE v).ended = s.ended := rfl

@[simp] theorem State.setHL_timer (s : State) (v : Word) : (s.setHL v).timer = s.timer := rfl
@[simp] theorem State.setHL_ppu (s : State) (v : Word) : (s.setHL v).ppu = s.ppu := rfl
@[simp] theorem State.setHL_joy (s : State) (v : Word) : (s.setHL v).joy = s.joy := rfl
@[simp] theorem State.setHL_ifReg (s : State) (v : Word) : (s.setHL v).ifReg = s.ifReg := rfl
@[simp] theorem State.setHL_ieReg (s : State) (v : Word) : (s.setHL v).ieReg = s.ieReg := rfl
@[simp] theorem State.setHL_dma (s : State) (v : Word) : (s.setHL v).dma = s.dma := rfl
@[simp] theorem State.setHL_mbc (s : State) (v : Word) : (s.setHL v).mbc = s.mbc := rfl
@[simp] theorem State.setHL_cart (s : State) (v : Word) : (s.setHL v).cart = s.cart := rfl
@[simp] theorem State.setHL_vram (s : State) (v : Word) : (s.setHL v).vram = s.vram := rfl
@[simp] theorem State.setHL_extRam (s : State) (v : Word) : (s.setHL v).extRam = s.extRam := rfl
@[simp] theorem State.setHL_wram (s : State) (v : Word) : (s.setHL v).wram = s.wram := rfl
@[simp] theorem State.setHL_oam (s : State) (v : Word) : (s.setHL v).oam = s.oam := rfl
@[simp] theorem State.setHL_io (s : State) (v : Word) : (s.setHL v).io = s.io := rfl
@[simp] theorem State.setHL_hram (s : State) (v : Word) : (s.setHL v).hram = s.hram := rfl
@[simp] theorem State.setHL_fault (s : State) (v : Word) : (s.setHL v).fault = s.fault := rfl
@[simp] theorem State.setHL_cycles (s : State) (v : Word) : (s.setHL v).cycles = s.cycles := rfl
@[simp] theorem State.setHL_inputs (s : State) (v : Word) : (s.setHL v).inputs = s.inputs := rfl
@[simp] theorem State.setHL_frames (s : State) (v : Word) : (s.setHL v).frames = s.frames := rfl
@[simp] theorem State.setHL_quitRequested (s : State) (v : Word) : (s.setHL v).quitRequested = s.quitRequested := rfl
@[simp] theorem State.setHL_ended (s : State) (v : Word) : (s.setHL v).ended = s.ended := rfl

@[simp] theorem State.setSP_timer (s : State) (v : Word) : (s.setSP v).timer = s.timer := rfl
@[simp] theorem State.setSP_ppu (s : State) (v : Word) : (s.setSP v).ppu = s.ppu := rfl
@[simp] theorem State.setSP_joy (s : State) (v : Word) : (s.setSP v).joy = s.joy := rfl
@[simp] theorem State.setSP_ifReg (s : State) (v : Word) : (s.setSP v).ifReg = s.ifReg := rfl
@[simp] theorem State.setSP_ieReg (s : State) (v : Word) : (s.setSP v).ieReg = s.ieReg := rfl
@[simp] theorem State.setSP_dma (s : State) (v : Word) : (s.setSP v).dma = s.dma := rfl
@[simp] theorem State.setSP_mbc (s : State) (v : Word) : (s.setSP v).mbc = s.mbc := rfl
@[simp] theorem State.setSP_cart (s : State) (v : Word) : (s.setSP v).cart = s.cart := rfl
@[simp] theorem State.setSP_vram (s : State) (v : Word) : (s.setSP v).vram = s.vram := rfl
@[simp] theorem State.setSP_extRam (s : State) (v : Word) : (s.setSP v).extRam = s.extRam := rfl
@[simp] theorem State.setSP_wram (s : State) (v : Word) : (s.setSP v).wram = s.wram := rfl
@[simp] theorem State.setSP_oam (s : State) (v : Word) : (s.setSP v).oam = s.oam := rfl
@[simp] theorem State.setSP_io (s : State) (v : Word) : (s.setSP v).io = s.io := rfl
@[simp] theorem State.setSP_hram (s : State) (v : Word) : (s.setSP v).hram = s.hram := rfl
@[simp] theorem State.setSP_fault (s : State) (v : Word) : (s.setSP v).fault = s.fault := rfl
@[simp] theorem State.setSP_cycles (s : State) (v : Word) : (s.setSP v).cycles = s.cycles := rfl
@[simp] theorem State.setSP_inputs (s : State) (v : Word) : (s.setSP v).inputs = s.inputs := rfl
@[simp] theorem State.setSP_frames (s : State) (v : Word) : (s.setSP v).frames = s.frames := rfl
@[simp] theorem State.setSP_quitRequested (s : State) (v : Word) : (s.setSP v).quitRequested = s.quitRequested := rfl
@[simp] theorem State.setSP_ended (s : State) (v : Word) : (s.setSP v).ended = s.ended := rfl

@[simp] theorem State.setPC_timer (s : State) (v : Word) : (s.setPC v).timer = s.timer := rfl
@[simp] theorem State.setPC_ppu (s : State) (v : Word) : (s.setPC v).ppu = s.ppu := rfl
@[simp] theorem State.setPC_joy (s : State) (v : Word) : (s.setPC v).joy = s.joy := rfl
@[simp] theorem State.setPC_ifReg (s : State) (v : Word) : (s.setPC v).ifReg = s.ifReg := rfl
@[simp] theorem State.setPC_ieReg (s : State) (v : Word) : (s.setPC v).ieReg = s.ieReg := rfl
@[simp] theorem State.setPC_dma (s : State) (v : Word) : (s.setPC v).dma = s.dma := rfl
@[simp] theorem State.setPC_mbc (s : State) (v : Word) : (s.setPC v).mbc = s.mbc := rfl
@[simp] theorem State.setPC_cart (s : State) (v : Word) : (s.setPC v).cart = s.cart := rfl
@[simp] theorem State.setPC_vram (s : State) (v : Word) : (s.setPC v).vram = s.vram := rfl
@[simp] theorem State.setPC_extRam (s : State) (v : Word) : (s.setPC v).extRam = s.extRam := rfl
@[simp] theorem State.setPC_wram (s : State) (v : Word) : (s.setPC v).wram = s.wram := rfl
@[simp] theorem State.setPC_oam (s : State) (v : Word) : (s.setPC v).oam = s.oam := rfl
@[simp] theorem State.setPC_io (s : State) (v : Word) : (s.setPC v).io = s.io := rfl
@[simp] theorem State.setPC_hram (s : State) (v : Word) : (s.setPC v).hram = s.hram := rfl
@[simp] theorem State.setPC_fault (s : State) (v : Word) : (s.setPC v).fault = s.fault := rfl
@[simp] theorem State.setPC_cycles (s : State) (v : Word) : (s.setPC v).cycles = s.cycles := rfl
@[simp] theorem State.setPC_inputs (s : State) (v : Word) : (s.setPC v).inputs = s.inputs := rfl
@[simp] theorem State.setPC_frames (s : State) (v : Word) : (s.setPC v).frames = s.frames := rfl
@[simp] theorem State.setPC_quitRequested (s : State) (v : Word) : (s.setPC v).quitRequested = s.quitRequested := rfl
@[simp] theorem State.setPC_ended (s : State) (v : Word) : (s.setPC v).ended = s.ended := rfl

@[simp] theorem State.setPair_timer (s : State) (p : Reg16) (v : Word) : (s.setPair p v).timer = s.timer := by cases p <;> rfl
@[simp] theorem State.setPair_ppu (s : State) (p : Reg16) (v : Word) : (s.setPair p v).ppu = s.ppu := by cases p <;> rfl
@[simp] theorem State.setPair_joy (s : State) (p : Reg16) (v : Word) : (s.setPair p v).joy = s.joy := by cases p <;> rfl
@[simp] theorem State.setPair_ifReg (s : State) (p : Reg16) (v : Word) : (s.setPair p v).ifReg = s.ifReg := by cases p <;> rfl
@[simp] theorem State.setPair_ieReg (s : State) (p : Reg16) (v : Word) : (s.setPair p v).ieReg = s.ieReg := by cases p <;> rfl
@[simp] theorem State.setPair_dma (s : State) (p : Reg16) (v : Word) : (s.setPair p v).dma = s.dma := by cases p <;> rfl
@[simp] theorem State.setPair_mbc (s : State) (p : Reg16) (v : Word) : (s.setPair p v).mbc = s.mbc := by cases p <;> rfl
@[simp] theorem State.setPair_cart (s : State) (p : Reg16) (v : Word) : (s.setPair p v).cart = s.cart := by cases p <;> rfl
@[simp] theorem State.setPair_vram (s : State) (p : Reg16) (v : Word) : (s.setPair p v).vram = s.vram := by cases p <;> rfl
@[simp] theorem State.setPair_extRam (s : State) (p : Reg16) (v : Word) : (s.setPair p v).extRam = s.extRam := by cases p <;> rfl
@[simp] theorem State.setPair_wram (s : State) (p : Reg16) (v : Word) : (s.setPair p v).wram = s.wram := by cases p <;> rfl
@[simp] theorem State.setPair_oam (s : State) (p : Reg16) (v : Word) : (s.setPair p v).oam = s.oam := by cases p <;> rfl
@[simp] theorem State.setPair_io (s : State) (p : Reg16) (v : Word) : (s.setPair p v).io = s.io := by cases p <;> rfl
@[simp] theorem State.setPair_hram (s : State) (p : Reg16) (v : Word) : (s.setPair p v).hram = s.hram := by cases p <;> rfl
@[simp] theorem State.setPair_fault (s : State) (p : Reg16) (v : Word) : (s.setPair p v).fault = s.fault := by cases p <;> rfl
@[simp] theorem State.setPair_cycles (s : State) (p : Reg16) (v : Word) : (s.setPair p v).cycles = s.cycles := by cases p <;> rfl
@[simp] theorem State.setPair_inputs (s : State) (p : Reg16) (v : Word) : (s.setPair p v).inputs = s.inputs := by cases p <;> rfl
@[simp] theorem State.setPair_frames (s : State) (p : Reg16) (v : Word) : (s.setPair p v).frames = s.frames := by cases p <;> rfl
@[simp] theorem State.setPair_quitRequested (s : State) (p : Reg16) (v : Word) : (s.setPair p v).quitRequested = s.quitRequested := by cases p <;> rfl
@[simp] theorem State.setPair_ended (s : State) (p : Reg16) (v : Word) : (s.setPair p v).ended = s.ended := by cases p <;> rfl

@[simp] theorem State.setStkPair_timer (s : State) (p : StkPair) (v : Word) : (s.setStkPair p v).timer = s.timer := by cases p <;> rfl
@[simp] theorem State.setStkPair_ppu (s : State) (p : StkPair) (v : Word) : (s.setStkPair p v).ppu = s.ppu := by cases p <;> rfl
@[simp] theorem State.setStkPair_joy (s : State) (p : StkPair) (v : Word) : (s.setStkPair p v).joy = s.joy := by cases p <;> rfl
@[simp] theorem State.setStkPair_ifReg (s : State) (p : StkPair) (v : Word) : (s.setStkPair p v).ifReg = s.ifReg := by cases p <;> rfl
@[simp] theorem State.setStkPair_ieReg (s : State) (p : StkPair) (v : Word) : (s.setStkPair p v).ieReg = s.ieReg := by cases p <;> rfl
@[simp] theorem State.setStkPair_dma (s : State) (p : StkPair) (v : Word) : (s.setStkPair p v).dma = s.dma := by cases p <;> rfl
@[simp] theorem State.setStkPair_mbc (s : State) (p : StkPair) (v : Word) : (s.setStkPair p v).mbc = s.mbc := by cases p <;> rfl
@[simp] theorem State.setStkPair_cart (s : State) (p : StkPair) (v : Word) : (s.setStkPair p v).cart = s.cart := by cases p <;> rfl
@[simp] theorem State.setStkPair_vram (s : State) (p : StkPair) (v : Word) : (s.setStkPair p v).vram = s.vram := by cases p <;> rfl
@[simp] theorem State.setStkPair_extRam (s : State) (p : StkPair) (v : Word) : (s.setStkPair p v).extRam = s.extRam := by cases p <;> rfl
@[simp] theorem State.setStkPair_wram (s : State) (p : StkPair) (v : Word) : (s.setStkPair p v).wram = s.wram := by cases p <;> rfl
@[simp] theorem State.setStkPair_oam (s : State) (p : StkPair) (v : Word) : (s.setStkPair p v).oam = s.oam := by cases p <;> rfl
@[simp] theorem State.setStkPair_io (s : State) (p : StkPair) (v : Word) : (s.setStkPair p v).io = s.io := by cases p <;> rfl
@[simp] theorem State.setStkPair_hram (s : State) (p : StkPair) (v : Word) : (s.setStkPair p v).hram = s.hram := by cases p <;> rfl
@[simp] theorem State.setStkPair_fault (s : State) (p : StkPair) (v : Word) : (s.setStkPair p v).fault = s.fault := by cases p <;> rfl
@[simp] theorem State.setStkPair_cycles (s : State) (p : StkPair) (v : Word) : (s.setStkPair p v).cycles = s.cycles := by cases p <;> rfl
@[simp] theorem State.setStkPair_inputs (s : State) (p : StkPair) (v : Word) : (s.setStkPair p v).inputs = s.inputs := by cases p <;> rfl
@[simp] theorem State.setStkPair_frames (s : State) (p : StkPair) (v : Word) : (s.setStkPair p v).frames = s.frames := by cases p <;> rfl
@[simp] theorem State.setStkPair_quitRequested (s : State) (p : StkPair) (v : Word) : (s.setStkPair p v).quitRequested = s.quitRequested := by cases p <;> rfl
@[simp] theorem State.setStkPair_ended (s : State) (p : StkPair) (v : Word) : (s.setStkPair p v).ended = s.ended := by cases p <;> rfl

@[simp] theorem State.setIme_timer (s : State) (v : Bool) : (s.setIme v).timer = s.timer := rfl
@[simp] theorem State.setIme_ppu (s : State) (v : Bool) : (s.setIme v).ppu = s.ppu := rfl
@[simp] theorem State.setIme_joy (s : State) (v : Bool) : (s.setIme v).joy = s.joy := rfl
@[simp] theorem State.setIme_ifReg (s : State) (v : Bool) : (s.setIme v).ifReg = s.ifReg := rfl
@[simp] theorem State.setIme_ieReg (s : State) (v : Bool) : (s.setIme v).ieReg = s.ieReg := rfl
@[simp] theorem State.setIme_dma (s : State) (v : Bool) : (s.setIme v).dma = s.dma := rfl
@[simp] theorem State.setIme_mbc (s : State) (v : Bool) : (s.setIme v).mbc = s.mbc := rfl
@[simp] theorem State.setIme_cart (s : State) (v : Bool) : (s.setIme v).cart = s.cart := rfl
@[simp] theorem State.setIme_vram (s : State) (v : Bool) : (s.setIme v).vram = s.vram := rfl
@[simp] theorem State.setIme_extRam (s : State) (v : Bool) : (s.setIme v).extRam = s.extRam := rfl
@[simp] theorem State.setIme_wram (s : State) (v : Bool) : (s.setIme v).wram = s.wram := rfl
@[simp] theorem State.setIme_oam (s : State) (v : Bool) : (s.setIme v).oam = s.oam := rfl
@[simp] theorem State.setIme_io (s : State) (v : Bool) : (s.setIme v).io = s.io := rfl
@[simp] theorem State.setIme_hram (s : State) (v : Bool) : (s.setIme v).hram = s.hram := rfl
@[simp] theorem State.setIme_fault (s : State) (v : Bool) : (s.setIme v).fault = s.fault := rfl
@[simp] theorem State.setIme_cycles (s : State) (v : Bool) : (s.setIme v).cycles = s.cycles := rfl
@[simp] theorem State.setIme_inputs (s : State) (v : Bool) : (s.setIme v).inputs = s.inputs := rfl
@[simp] theorem State.setIme_frames (s : State) (v : Bool) : (s.setIme v).frames = s.frames := rfl
@[simp] theorem State.setIme_quitRequested (s : State) (v : Bool) : (s.setIme v).quitRequested = s.quitRequested := rfl
@[simp] theorem State.setIme_ended (s : State) (v : Bool) : (s.setIme v).ended = s.ended := rfl

@[simp] theorem State.setImePending_timer (s : State) (v : Bool) : (s.setImePending v).timer = s.timer := rfl
@[simp] theorem State.setImePending_ppu (s : State) (v : Bool) : (s.setImePending v).ppu = s.ppu := rfl
@[simp] theorem State.setImePending_joy (s : State) (v : Bool) : (s.setImePending v).joy = s.joy := rfl
@[simp] theorem State.setImePending_ifReg (s : State) (v : Bool) : (s.setImePending v).ifReg = s.ifReg := rfl
@[simp] theorem State.setImePending_ieReg (s : State) (v : Bool) : (s.setImePending v).ieReg = s.ieReg := rfl
@[simp] theorem State.setImePending_dma (s : State) (v : Bool) : (s.setImePending v).dma = s.dma := rfl
@[simp] theorem State.setImePending_mbc (s : State) (v : Bool) : (s.setImePending v).mbc = s.mbc := rfl
@[simp] theorem State.setImePending_cart (s : State) (v : Bool) : (s.setImePending v).cart = s.cart := rfl
@[simp] theorem State.setImePending_vram (s : State) (v : Bool) : (s.setImePending v).vram = s.vram := rfl
@[simp] theorem State.setImePending_extRam (s : State) (v : Bool) : (s.setImePending v).extRam = s.extRam := rfl
@[simp] theorem State.setImePending_wram (s : State) (v : Bool) : (s.setImePending v).wram = s.wram := rfl
@[simp] theorem State.setImePending_oam (s : State) (v : Bool) : (s.setImePending v).oam = s.oam := rfl
@[simp] theorem State.setImePending_io (s : State) (v : Bool) : (s.setImePending v).io = s.io := rfl
@[simp] theorem State.setImePending_hram (s : State) (v : Bool) : (s.setImePending v).hram = s.hram := rfl
@[simp] theorem State.setImePending_fault (s : State) (v : Bool) : (s.setImePending v).fault = s.fault := rfl
@[simp] theorem State.setImePending_cycles (s : State) (v : Bool) : (s.setImePending v).cycles = s.cycles := rfl
@[simp] theorem State.setImePending_inputs (s : State) (v : Bool) : (s.setImePending v).inputs = s.inputs := rfl
@[simp] theorem State.setImePending_frames (s : State) (v : Bool) : (s.setImePending v).frames = s.frames := rfl
@[simp] theorem State.setImePending_quitRequested (s : State) (v : Bool) : (s.setImePending v).quitRequested = s.quitRequested := rfl
@[simp] theorem State.setImePending_ended (s : State) (v : Bool) : (s.setImePending v).ended = s.ended := rfl

@[simp] theorem State.setRun_timer (s : State) (v : RunState) : (s.setRun v).timer = s.timer := rfl
@[simp] theorem State.setRun_ppu (s : State) (v : RunState) : (s.setRun v).ppu = s.ppu := rfl
@[simp] theorem State.setRun_joy (s : State) (v : RunState) : (s.setRun v).joy = s.joy := rfl
@[simp] theorem State.setRun_ifReg (s : State) (v : RunState) : (s.setRun v).ifReg = s.ifReg := rfl
@[simp] theorem State.setRun_ieReg (s : State) (v : RunState) : (s.setRun v).ieReg = s.ieReg := rfl
@[simp] theorem State.setRun_dma (s : State) (v : RunState) : (s.setRun v).dma = s.dma := rfl
@[simp] theorem State.setRun_mbc (s : State) (v : RunState) : (s.setRun v).mbc = s.mbc := rfl
@[simp] theorem State.setRun_cart (s : State) (v : RunState) : (s.setRun v).cart = s.cart := rfl
@[simp] theorem State.setRun_vram (s : State) (v : RunState) : (s.setRun v).vram = s.vram := rfl
@[simp] theorem State.setRun_extRam (s : State) (v : RunState) : (s.setRun v).extRam = s.extRam := rfl
@[simp] theorem State.setRun_wram (s : State) (v : RunState) : (s.setRun v).wram = s.wram := rfl
@[simp] theorem State.setRun_oam (s : State) (v : RunState) : (s.setRun v).oam = s.oam := rfl
@[simp] theorem State.setRun_io (s : State) (v : RunState) : (s.setRun v).io = s.io := rfl
@[simp] theorem State.setRun_hram (s : State) (v : RunState) : (s.setRun v).hram = s.hram := rfl
@[simp] theorem State.setRun_fault (s : State) (v : RunState) : (s.setRun v).fault = s.fault := rfl
@[simp] theorem State.setRun_cycles (s : State) (v : RunState) : (s.setRun v).cycles = s.cycles := rfl
@[simp] theorem State.setRun_inputs (s : State) (v : RunState) : (s.setRun v).inputs = s.inputs := rfl
@[simp] theorem State.setRun_frames (s : State) (v : RunState) : (s.setRun v).frames = s.frames := rfl
@[simp] theorem State.setRun_quitRequested (s : State) (v : RunState) : (s.setRun v).quitRequested = s.quitRequested := rfl
@[simp] theorem State.setRun_ended (s : State) (v : RunState) : (s.setRun v).ended = s.ended := rfl

@[simp] theorem State.withCycles_cpu (s : State) (n : Nat) : (s.withCycles n).cpu = s.cpu := rfl
@[simp] theorem State.withCycles_timer (s : State) (n : Nat) : (s.withCycles n).timer = s.timer := rfl
@[simp] theorem State.withCycles_ppu (s : State) (n : Nat) : (s.withCycles n).ppu = s.ppu := rfl
@[simp] theorem State.withCycles_joy (s : State) (n : Nat) : (s.withCycles n).joy = s.joy := rfl
@[simp] theorem State.withCycles_ifReg (s : State) (n : Nat) : (s.withCycles n).ifReg = s.ifReg := rfl
@[simp] theorem State.withCycles_ieReg (s : State) (n : Nat) : (s.withCycles n).ieReg = s.ieReg := rfl
@[simp] theorem State.withCycles_dma (s : State) (n : Nat) : (s.withCycles n).dma = s.dma := rfl
@[simp] theorem State.withCycles_mbc (s : State) (n : Nat) : (s.withCycles n).mbc = s.mbc := rfl
@[simp] theorem State.withCycles_cart (s : State) (n : Nat) : (s.withCycles n).cart = s.cart := rfl
@[simp] theorem State.withCycles_vram (s : State) (n : Nat) : (s.withCycles n).vram = s.vram := rfl
@[simp] theorem State.withCycles_extRam (s : State) (n : Nat) : (s.withCycles n).extRam = s.extRam := rfl
@[simp] theorem State.withCycles_wram (s : State) (n : Nat) : (s.withCycles n).wram = s.wram := rfl
@[simp] theorem State.withCycles_oam (s : State) (n : Nat) : (s.withCycles n).oam = s.oam := rfl
@[simp] theorem State.withCycles_io (s : State) (n : Nat) : (s.withCycles n).io = s.io := rfl
@[simp] theorem State.withCycles_hram (s : State) (n : Nat) : (s.withCycles n).hram = s.hram := rfl
@[simp] theorem State.withCycles_fault (s : State) (n : Nat) : (s.withCycles n).fault = s.fault := rfl
@[simp] theorem State.withCycles_inputs (s : State) (n : Nat) : (s.withCycles n).inputs = s.inputs := rfl
@[simp] theorem State.withCycles_frames (s : State) (n : Nat) : (s.withCycles n).frames = s.frames := rfl
@[simp] theorem State.withCycles_quitRequested (s : State) (n : Nat) : (s.withCycles n).quitRequested = s.quitRequested := rfl
@[simp] theorem State.withCycles_ended (s : State) (n : Nat) : (s.withCycles n).ended = s.ended := rfl

/-! ## What every register update writes -/

@[simp] theorem State.setA_cpu (s : State) (v : Byte) : (s.setA v).cpu = { s.cpu with a := v } := rfl
@[simp] theorem State.setF_cpu (s : State) (v : Byte) : (s.setF v).cpu = { s.cpu with f := v &&& 0xF0 } := rfl
@[simp] theorem State.setAF_cpu (s : State) (v : Word) : (s.setAF v).cpu = { s.cpu with a := hiByte v, f := loByte v &&& 0xF0 } := rfl
@[simp] theorem State.setBC_cpu (s : State) (v : Word) : (s.setBC v).cpu = { s.cpu with b := hiByte v, c := loByte v } := rfl
@[simp] theorem State.setDE_cpu (s : State) (v : Word) : (s.setDE v).cpu = { s.cpu with d := hiByte v, e := loByte v } := rfl
@[simp] theorem State.setHL_cpu (s : State) (v : Word) : (s.setHL v).cpu = { s.cpu with h := hiByte v, l := loByte v } := rfl
@[simp] theorem State.setSP_cpu (s : State) (v : Word) : (s.setSP v).cpu = { s.cpu with sp := v } := rfl
@[simp] theorem State.setPC_cpu (s : State) (v : Word) : (s.setPC v).cpu = { s.cpu with pc := v } := rfl
@[simp] theorem State.setIme_cpu (s : State) (v : Bool) : (s.setIme v).cpu = { s.cpu with ime := v } := rfl
@[simp] theorem State.setImePending_cpu (s : State) (v : Bool) : (s.setImePending v).cpu = { s.cpu with imePending := v } := rfl
@[simp] theorem State.setRun_cpu (s : State) (v : RunState) : (s.setRun v).cpu = { s.cpu with run := v } := rfl
@[simp] theorem State.withCycles_cycles (s : State) (n : Nat) : (s.withCycles n).cycles = n := rfl

/-! ## What a write of an `r8` register or of a pair leaves alone in the CPU -/

@[simp] theorem State.setReg8_cpu_f (s : State) (r : Reg8) (v : Byte) : (s.setReg8 r v).cpu.f = s.cpu.f := by cases r <;> rfl
@[simp] theorem State.setReg8_cpu_sp (s : State) (r : Reg8) (v : Byte) : (s.setReg8 r v).cpu.sp = s.cpu.sp := by cases r <;> rfl
@[simp] theorem State.setReg8_cpu_pc (s : State) (r : Reg8) (v : Byte) : (s.setReg8 r v).cpu.pc = s.cpu.pc := by cases r <;> rfl
@[simp] theorem State.setReg8_cpu_ime (s : State) (r : Reg8) (v : Byte) : (s.setReg8 r v).cpu.ime = s.cpu.ime := by cases r <;> rfl
@[simp] theorem State.setReg8_cpu_imePending (s : State) (r : Reg8) (v : Byte) : (s.setReg8 r v).cpu.imePending = s.cpu.imePending := by cases r <;> rfl
@[simp] theorem State.setReg8_cpu_run (s : State) (r : Reg8) (v : Byte) : (s.setReg8 r v).cpu.run = s.cpu.run := by cases r <;> rfl
@[simp] theorem State.setPair_cpu_a (s : State) (p : Reg16) (v : Word) : (s.setPair p v).cpu.a = s.cpu.a := by cases p <;> rfl
@[simp] theorem State.setPair_cpu_f (s : State) (p : Reg16) (v : Word) : (s.setPair p v).cpu.f = s.cpu.f := by cases p <;> rfl
@[simp] theorem State.setPair_cpu_pc (s : State) (p : Reg16) (v : Word) : (s.setPair p v).cpu.pc = s.cpu.pc := by cases p <;> rfl
@[simp] theorem State.setPair_cpu_ime (s : State) (p : Reg16) (v : Word) : (s.setPair p v).cpu.ime = s.cpu.ime := by cases p <;> rfl
@[simp] theorem State.setPair_cpu_imePending (s : State) (p : Reg16) (v : Word) : (s.setPair p v).cpu.imePending = s.cpu.imePending := by cases p <;> rfl
@[simp] theorem State.setPair_cpu_run (s : State) (p : Reg16) (v : Word) : (s.setPair p v).cpu.run = s.cpu.run := by cases p <;> rfl
@[simp] theorem State.setStkPair_cpu_sp (s : State) (p : StkPair) (v : Word) : (s.setStkPair p v).cpu.sp = s.cpu.sp := by cases p <;> rfl
@[simp] theorem State.setStkPair_cpu_pc (s : State) (p : StkPair) (v : Word) : (s.setStkPair p v).cpu.pc = s.cpu.pc := by cases p <;> rfl
@[simp] theorem State.setStkPair_cpu_ime (s : State) (p : StkPair) (v : Word) : (s.setStkPair p v).cpu.ime = s.cpu.ime := by cases p <;> rfl
@[simp] theorem State.setStkPair_cpu_imePending (s : State) (p : StkPair) (v : Word) : (s.setStkPair p v).cpu.imePending = s.cpu.imePending := by cases p <;> rfl
@[simp] theorem State.setStkPair_cpu_run (s : State) (p : StkPair) (v : Word) : (s.setStkPair p v).cpu.run = s.cpu.run := by cases p <;> rfl

/-! ## Round trips -/

theorem word16_toNat (hi lo : Byte) : (word16 hi lo).toNat = hi.toNat * 256 + lo.toNat := by
  have h : (word16 hi lo).toNat = hi.toNat <<< 8 ||| lo.toNat := BitVec.toNat_append hi lo
  rw [h, Nat.shiftLeft_eq, Nat.mul_comm, ← Nat.two_pow_add_eq_or_of_lt (i := 8) lo.isLt]

theorem hiByte_toNat (w : Word) : (hiByte w).toNat = w.toNat / 256 := by
  have := w.isLt
  simp [hiByte, BitVec.extractLsb'_toNat, Nat.shiftRight_eq_div_pow]
  omega

theorem loByte_toNat (w : Word) : (loByte w).toNat = w.toNat % 256 := by
  simp [loByte, BitVec.extractLsb'_toNat]

@[simp] theorem hiByte_word16 (hi lo : Byte) : hiByte (word16 hi lo) = hi := by
  apply BitVec.eq_of_toNat_eq
  rw [hiByte_toNat, word16_toNat]
  omega

@[simp] theorem loByte_word16 (hi lo : Byte) : loByte (word16 hi lo) = lo := by
  apply BitVec.eq_of_toNat_eq
  rw [loByte_toNat, word16_toNat]
  omega

@[simp] theorem word16_hi_lo (w : Word) : word16 (hiByte w) (loByte w) = w := by
  apply BitVec.eq_of_toNat_eq
  rw [word16_toNat, hiByte_toNat, loByte_toNat]
  omega

@[simp] theorem State.reg8_setReg8_same (s : State) (r : Reg8) (v : Byte) : (s.setReg8 r v).reg8 r = v := by
  cases r <;> rfl

theorem State.reg8_setReg8_other (s : State) (r r' : Reg8) (v : Byte) (h : r' ≠ r) :
    (s.setReg8 r v).reg8 r' = s.reg8 r' := by
  cases r <;> cases r' <;> first | rfl | exact absurd rfl h

/-- A pair that is written reads back as written (R20). -/
@[simp] theorem State.pair_setPair_same (s : State) (p : Reg16) (v : Word) : (s.setPair p v).pair p = v := by
  cases p
  · exact word16_hi_lo v
  · exact word16_hi_lo v
  · exact word16_hi_lo v
  · rfl

/-- F's low nibble is dropped (R22), so AF reads back with it cleared. -/
theorem State.af_setAF (s : State) (v : Word) : (s.setAF v).af = word16 (hiByte v) (loByte v &&& 0xF0) := rfl

/-! ## F and its low nibble -/

/-- Packed flags have a low nibble of zero, so the mask of R22 leaves them alone. -/
@[simp] theorem packFlags_and_F0 (z n h c : Bool) : packFlags z n h c &&& 0xF0 = packFlags z n h c := by
  cases z <;> cases n <;> cases h <;> cases c <;> rfl

@[simp] theorem packFlags_and_0F (z n h c : Bool) : packFlags z n h c &&& 0x0F = 0 := by
  cases z <;> cases n <;> cases h <;> cases c <;> rfl

@[simp] theorem and_F0_and_0F (v : Byte) : v &&& 0xF0 &&& 0x0F = 0 := by
  rw [BitVec.and_assoc]; simp

@[simp] theorem packFlags_bit7 (z n h c : Bool) : (packFlags z n h c).getLsbD 7 = z := by
  cases z <;> cases n <;> cases h <;> cases c <;> rfl

@[simp] theorem packFlags_bit6 (z n h c : Bool) : (packFlags z n h c).getLsbD 6 = n := by
  cases z <;> cases n <;> cases h <;> cases c <;> rfl

@[simp] theorem packFlags_bit5 (z n h c : Bool) : (packFlags z n h c).getLsbD 5 = h := by
  cases z <;> cases n <;> cases h <;> cases c <;> rfl

@[simp] theorem packFlags_bit4 (z n h c : Bool) : (packFlags z n h c).getLsbD 4 = c := by
  cases z <;> cases n <;> cases h <;> cases c <;> rfl

end Sys2Proof.Machine
end

