-- ==== Sys2Proof/Laws/Mmu.lean ====
section
/-! SUPPORT. What one byte access of the MMU can do: where an address leads, what a store leaves alone, and that a store
keeps the machine's invariants. Later proofs cite these and do not unfold `memWrite`. -/

namespace Sys2Proof.Machine

/-! ## Where an address leads -/

theorem target_rom_lt {a : Word} {o : Nat} (h : target a = .rom o) : o < 0x8000 := by
  simp only [target] at h
  split_ifs at h
  all_goals simp_all

theorem target_vram_lt {a : Word} {o : Nat} (h : target a = .vram o) : o < 8192 := by
  simp only [target] at h
  split_ifs at h
  all_goals simp_all
  omega

theorem target_extRam_lt {a : Word} {o : Nat} (h : target a = .extRam o) : o < 8192 := by
  simp only [target] at h
  split_ifs at h
  all_goals simp_all
  omega

theorem target_wram_lt {a : Word} {o : Nat} (h : target a = .wram o) : o < 8192 := by
  simp only [target] at h
  split_ifs at h <;> simp_all <;> omega

theorem target_oam_lt {a : Word} {o : Nat} (h : target a = .oam o) : o < 160 := by
  simp only [target] at h
  split_ifs at h
  all_goals simp_all
  omega

theorem target_hram_lt {a : Word} {o : Nat} (h : target a = .hram o) : o < 127 := by
  simp only [target] at h
  split_ifs at h
  all_goals simp_all
  omega

theorem plain_of_ite {p : Prop} [Decidable p] {r x : IoReg} {o : Nat} (h : (if p then r else x) = .plain o)
    (hr : ∀ o, r ≠ .plain o) : x = .plain o := by
  by_cases hp : p
  · rw [if_pos hp] at h
    exact absurd h (hr o)
  · rwa [if_neg hp] at h

theorem ioRegAt_plain {o o' : Nat} (h : ioRegAt o = .plain o') : o' = o := by
  unfold ioRegAt at h
  iterate 18 replace h := plain_of_ite h nofun
  cases h
  rfl

theorem target_plain_lt {a : Word} {o : Nat} (h : target a = .io (.plain o)) : o < 128 := by
  unfold target at h
  dsimp only at h
  iterate 7
    split at h
    · cases h
  split at h
  · have := ioRegAt_plain (Target.io.inj h)
    omega
  · split at h <;> cases h

/-! ## Reads and stores do not look at the CPU -/

theorem memRead_withCpu (s : State) (c : Cpu) (n : Nat) (a : Word) :
    memRead { s with cpu := c, cycles := n } a = memRead s a := rfl

@[simp] theorem memRead_setReg8 (s : State) (r : Reg8) (v : Byte) (a : Word) : memRead (s.setReg8 r v) a = memRead s a := by
  cases r <;> rfl

@[simp] theorem memRead_setPair (s : State) (p : Reg16) (v a : Word) : memRead (s.setPair p v) a = memRead s a := by
  cases p <;> rfl

@[simp] theorem memRead_setStkPair (s : State) (p : StkPair) (v a : Word) :
    memRead (s.setStkPair p v) a = memRead s a := by
  cases p <;> rfl

@[simp] theorem memRead_setA (s : State) (v : Byte) (a : Word) : memRead (s.setA v) a = memRead s a := rfl
@[simp] theorem memRead_setF (s : State) (v : Byte) (a : Word) : memRead (s.setF v) a = memRead s a := rfl
@[simp] theorem memRead_setHL (s : State) (v a : Word) : memRead (s.setHL v) a = memRead s a := rfl
@[simp] theorem memRead_setSP (s : State) (v a : Word) : memRead (s.setSP v) a = memRead s a := rfl
@[simp] theorem memRead_setPC (s : State) (v a : Word) : memRead (s.setPC v) a = memRead s a := rfl
@[simp] theorem memRead_setIme (s : State) (v : Bool) (a : Word) : memRead (s.setIme v) a = memRead s a := rfl
@[simp] theorem memRead_setImePending (s : State) (v : Bool) (a : Word) : memRead (s.setImePending v) a = memRead s a := rfl
@[simp] theorem memRead_setRun (s : State) (v : RunState) (a : Word) : memRead (s.setRun v) a = memRead s a := rfl
@[simp] theorem memRead_withCycles (s : State) (n : Nat) (a : Word) : memRead (s.withCycles n) a = memRead s a := rfl

/-! ## OAM DMA writes OAM and nothing else -/

theorem oamDma_foldl (v : Byte) (s : State) (l : List Nat) :
    l.foldl (oamDmaByte v) s = { s with oam := (l.foldl (oamDmaByte v) s).oam } := by
  induction l generalizing s with
  | nil => rfl
  | cons i l ih => rw [List.foldl_cons, ih]; rfl

theorem oamDma_eq (v : Byte) (s : State) : oamDma v s = { s with oam := (oamDma v s).oam } := oamDma_foldl v s _

theorem oamDma_foldl_wf (v : Byte) (s : State) (l : List Nat) (h : s.oam.wf 160 = true) (hl : ∀ i ∈ l, i < 160) :
    (l.foldl (oamDmaByte v) s).oam.wf 160 = true := by
  induction l generalizing s with
  | nil => exact h
  | cons i l ih =>
    rw [List.foldl_cons]
    exact ih _ (Memory.write_wf _ h (hl i (by simp))) fun j hj => hl j (by simp [hj])

theorem oamDma_wf (v : Byte) (s : State) (h : s.oam.wf 160 = true) : (oamDma v s).oam.wf 160 = true :=
  oamDma_foldl_wf v s _ h fun _ hi => List.mem_range.mp hi

/-! ## What a store is, by where its address leads -/

/-- Everything a store can do: it writes one of the parts a memory-mapped address names and leaves the rest. -/
inductive StoreEffect (s : State) (v : Byte) : State → Prop
  | nothing : StoreEffect s v s
  | mbc (m : Mbc) (h : s.mbc.bankLo ≠ 0 → m.bankLo ≠ 0) : StoreEffect s v { s with mbc := m }
  | vram (o : Nat) (h : o < 8192) : StoreEffect s v { s with vram := s.vram.write o v }
  | extRam (o : Nat) (h : o < s.cart.ramBytes) : StoreEffect s v { s with extRam := s.extRam.write o v }
  | wram (o : Nat) (h : o < 8192) : StoreEffect s v { s with wram := s.wram.write o v }
  | oam (o : Nat) (h : o < 160) : StoreEffect s v { s with oam := s.oam.write o v }
  | hram (o : Nat) (h : o < 127) : StoreEffect s v { s with hram := s.hram.write o v }
  | io (o : Nat) (h : o < 128) : StoreEffect s v { s with io := s.io.write o v }
  | ie : StoreEffect s v { s with ieReg := v }
  | ifReg : StoreEffect s v { s with ifReg := v }
  | joy (j : Joypad) (h : j.pressed = s.joy.pressed) : StoreEffect s v { s with joy := j }
  | timer (t : Timer) (h : t.tacc = s.timer.tacc) : StoreEffect s v { s with timer := t }
  | ppu (p : Ppu) (hly : p.ly = s.ppu.ly) (hdot : p.dot = s.ppu.dot) (hmode : p.mode = s.ppu.mode)
      (hfb : p.fb = s.ppu.fb) (hco : p.coincidence = s.ppu.coincidence) (hwin : p.winLine = s.ppu.winLine)
      (hready : p.frameReady = s.ppu.frameReady) : StoreEffect s v { s with ppu := p }
  | dma (m : Memory) (h : s.oam.wf 160 = true → m.wf 160 = true) : StoreEffect s v { s with dma := v, oam := m }

theorem cartWrite_effect (s : State) (x : Nat) (v : Byte) : StoreEffect s v (cartWrite s x v) := by
  unfold cartWrite
  split
  · exact .nothing
  · split
    · exact .mbc _ id
    · split
      · refine .mbc _ fun _ => ?_
        show (if v.setWidth 5 = 0 then (1 : BitVec 5) else v.setWidth 5) ≠ 0
        split_ifs with h
        · decide
        · exact h
      · split
        · exact .mbc _ id
        · exact .mbc _ id

theorem extRamOffset_lt {s : State} {o k : Nat} (h : extRamOffset s o = some k) : k < s.cart.ramBytes := by
  unfold extRamOffset at h
  split at h
  · cases h
  · rename_i hne
    split at h
    · cases h
      exact Nat.mod_lt _ (Nat.pos_of_ne_zero hne)
    · split at h
      · cases h
        exact Nat.mod_lt _ (Nat.pos_of_ne_zero hne)
      · cases h

theorem extRamWrite_effect (s : State) (o : Nat) (v : Byte) : StoreEffect s v (extRamWrite s o v) := by
  unfold extRamWrite
  split
  · exact .nothing
  · rename_i k h
    exact .extRam k (extRamOffset_lt h)

theorem ioWrite_effect (s : State) (r : IoReg) (v : Byte) (h : ∀ o, r = .plain o → o < 128) :
    StoreEffect s v (ioWrite s r v) := by
  cases r with
  | p1 => exact .joy _ rfl
  | div => exact .timer _ rfl
  | tima => exact .timer _ rfl
  | tma => exact .timer _ rfl
  | tac => exact .timer _ rfl
  | ifReg => exact .ifReg
  | lcdc => exact .ppu _ rfl rfl rfl rfl rfl rfl rfl
  | stat => exact .ppu _ rfl rfl rfl rfl rfl rfl rfl
  | scy => exact .ppu _ rfl rfl rfl rfl rfl rfl rfl
  | scx => exact .ppu _ rfl rfl rfl rfl rfl rfl rfl
  | ly => exact .nothing
  | lyc => exact .ppu _ rfl rfl rfl rfl rfl rfl rfl
  | dma =>
    have h1 := oamDma_eq v { s with dma := v }
    simp only [ioWrite]
    rw [h1]
    exact .dma _ fun hw => oamDma_wf v _ hw
  | bgp => exact .ppu _ rfl rfl rfl rfl rfl rfl rfl
  | obp0 => exact .ppu _ rfl rfl rfl rfl rfl rfl rfl
  | obp1 => exact .ppu _ rfl rfl rfl rfl rfl rfl rfl
  | wy => exact .ppu _ rfl rfl rfl rfl rfl rfl rfl
  | wx => exact .ppu _ rfl rfl rfl rfl rfl rfl rfl
  | plain o => exact .io o (h o rfl)

/-- A store has one of the effects above. -/
theorem memWrite_effect (s : State) (a : Word) (v : Byte) : StoreEffect s v (memWrite s a v) := by
  unfold memWrite
  split <;> rename_i h
  · exact cartWrite_effect s _ v
  · exact .vram _ (target_vram_lt h)
  · exact extRamWrite_effect s _ v
  · exact .wram _ (target_wram_lt h)
  · exact .oam _ (target_oam_lt h)
  · exact .nothing
  · exact ioWrite_effect s _ v fun o ho => target_plain_lt (ho ▸ h)
  · exact .hram _ (target_hram_lt h)
  · exact .ie

/-! ## What every store leaves alone -/

theorem StoreEffect.keeps {s t : State} {v : Byte} (h : StoreEffect s v t) :
    t.cpu = s.cpu ∧ t.cart = s.cart ∧ t.fault = s.fault ∧ t.cycles = s.cycles ∧ t.inputs = s.inputs ∧
      t.frames = s.frames ∧ t.quitRequested = s.quitRequested ∧ t.ended = s.ended := by
  cases h <;> exact ⟨rfl, rfl, rfl, rfl, rfl, rfl, rfl, rfl⟩

@[simp] theorem memWrite_cpu (s : State) (a : Word) (v : Byte) : (memWrite s a v).cpu = s.cpu :=
  (memWrite_effect s a v).keeps.1

@[simp] theorem memWrite_cart (s : State) (a : Word) (v : Byte) : (memWrite s a v).cart = s.cart :=
  (memWrite_effect s a v).keeps.2.1

@[simp] theorem memWrite_fault (s : State) (a : Word) (v : Byte) : (memWrite s a v).fault = s.fault :=
  (memWrite_effect s a v).keeps.2.2.1

@[simp] theorem memWrite_cycles (s : State) (a : Word) (v : Byte) : (memWrite s a v).cycles = s.cycles :=
  (memWrite_effect s a v).keeps.2.2.2.1

@[simp] theorem memWrite_inputs (s : State) (a : Word) (v : Byte) : (memWrite s a v).inputs = s.inputs :=
  (memWrite_effect s a v).keeps.2.2.2.2.1

@[simp] theorem memWrite_frames (s : State) (a : Word) (v : Byte) : (memWrite s a v).frames = s.frames :=
  (memWrite_effect s a v).keeps.2.2.2.2.2.1

@[simp] theorem memWrite_quitRequested (s : State) (a : Word) (v : Byte) :
    (memWrite s a v).quitRequested = s.quitRequested := (memWrite_effect s a v).keeps.2.2.2.2.2.2.1

@[simp] theorem memWrite_ended (s : State) (a : Word) (v : Byte) : (memWrite s a v).ended = s.ended :=
  (memWrite_effect s a v).keeps.2.2.2.2.2.2.2

/-! ## What every store keeps -/

/-- The part of the invariant that holds at every moment of a tick, also between the CPU step and the device advances. -/
structure CoreInv (s : State) : Prop where
  memories : MemoriesWf s
  flags : FlagsWf s
  bankLo : BankLoWf s
  scan : ScanWf s.ppu
  framebuffer : FramebufferWf s.ppu

theorem Inv.core {s : State} (h : Inv s) : CoreInv s := ⟨h.memories, h.flags, h.bankLo, h.scan, h.framebuffer⟩

theorem ScanWf.congr {p q : Ppu} (h : ScanWf p) (hly : q.ly = p.ly) (hdot : q.dot = p.dot) (hmode : q.mode = p.mode) :
    ScanWf q := by
  constructor
  · rw [hly]; exact h.line
  · rw [hdot]; exact h.dot
  · rw [hly, hmode]; exact h.vblank
  · rw [hly, hmode, hdot]; exact h.drawing
  · rw [hmode, hdot]; exact h.oamScan
  · rw [hly, hmode, hdot]; exact h.hblank

theorem FramebufferWf.congr {p q : Ppu} (h : FramebufferWf p) (hfb : q.fb = p.fb) : FramebufferWf q := by
  constructor
  · rw [hfb]; exact h.rows
  · rw [hfb]; exact h.cells

theorem StoreEffect.coreInv {s t : State} {v : Byte} (h : StoreEffect s v t) (hi : CoreInv s) : CoreInv t := by
  obtain ⟨hm, hf, hb, hs, hfb⟩ := hi
  cases h with
  | nothing => exact ⟨hm, hf, hb, hs, hfb⟩
  | mbc m h => exact ⟨⟨hm.1, hm.2, hm.3, hm.4, hm.5, hm.6, hm.7⟩, hf, h hb, hs, hfb⟩
  | vram o h => exact ⟨⟨Memory.write_wf v hm.1 h, hm.2, hm.3, hm.4, hm.5, hm.6, hm.7⟩, hf, hb, hs, hfb⟩
  | extRam o h => exact ⟨⟨hm.1, Memory.write_wf v hm.2 h, hm.3, hm.4, hm.5, hm.6, hm.7⟩, hf, hb, hs, hfb⟩
  | wram o h => exact ⟨⟨hm.1, hm.2, Memory.write_wf v hm.3 h, hm.4, hm.5, hm.6, hm.7⟩, hf, hb, hs, hfb⟩
  | oam o h => exact ⟨⟨hm.1, hm.2, hm.3, Memory.write_wf v hm.4 h, hm.5, hm.6, hm.7⟩, hf, hb, hs, hfb⟩
  | hram o h => exact ⟨⟨hm.1, hm.2, hm.3, hm.4, hm.5, Memory.write_wf v hm.6 h, hm.7⟩, hf, hb, hs, hfb⟩
  | io o h => exact ⟨⟨hm.1, hm.2, hm.3, hm.4, Memory.write_wf v hm.5 h, hm.6, hm.7⟩, hf, hb, hs, hfb⟩
  | ie => exact ⟨⟨hm.1, hm.2, hm.3, hm.4, hm.5, hm.6, hm.7⟩, hf, hb, hs, hfb⟩
  | ifReg => exact ⟨⟨hm.1, hm.2, hm.3, hm.4, hm.5, hm.6, hm.7⟩, hf, hb, hs, hfb⟩
  | joy j h => exact ⟨⟨hm.1, hm.2, hm.3, hm.4, hm.5, hm.6, hm.7⟩, hf, hb, hs, hfb⟩
  | timer t h => exact ⟨⟨hm.1, hm.2, hm.3, hm.4, hm.5, hm.6, hm.7⟩, hf, hb, hs, hfb⟩
  | ppu p hly hdot hmode hfbEq hco hwin hready =>
    exact ⟨⟨hm.1, hm.2, hm.3, hm.4, hm.5, hm.6, hm.7⟩, hf, hb, hs.congr hly hdot hmode, hfb.congr hfbEq⟩
  | dma m h => exact ⟨⟨hm.1, hm.2, hm.3, h hm.4, hm.5, hm.6, hm.7⟩, hf, hb, hs, hfb⟩

theorem memWrite_coreInv {s : State} (a : Word) (v : Byte) (hi : CoreInv s) : CoreInv (memWrite s a v) :=
  (memWrite_effect s a v).coreInv hi

theorem StoreEffect.frameReady {s t : State} {v : Byte} (h : StoreEffect s v t) : t.ppu.frameReady = s.ppu.frameReady := by
  cases h <;> first | rfl | assumption

theorem memWrite_frameReady (s : State) (a : Word) (v : Byte) : (memWrite s a v).ppu.frameReady = s.ppu.frameReady :=
  (memWrite_effect s a v).frameReady

/-- The invariant looks at nothing of the CPU but F. -/
theorem CoreInv.withCpu {s : State} (hi : CoreInv s) (c : Cpu) (n : Nat) (hf : c.f &&& 0x0F = 0) :
    CoreInv { s with cpu := c, cycles := n } :=
  ⟨⟨hi.memories.1, hi.memories.2, hi.memories.3, hi.memories.4, hi.memories.5, hi.memories.6, hi.memories.7⟩, hf,
    hi.bankLo, hi.scan, hi.framebuffer⟩

end Sys2Proof.Machine
end

