-- ==== Sys2Proof/Laws/Devices.lean ====
section
/-! SUPPORT. What the timer, the PPU and the host's part of a tick can change, and that they keep the invariant. -/

namespace Sys2Proof.Machine

/-! ## Interrupt requests -/

@[simp] theorem requestInterrupt_keeps (n : Nat) (s : State) :
    requestInterrupt n s = { s with ifReg := s.ifReg ||| ((1 : Byte) <<< n) } := rfl

/-! ## The timer -/

/-- The timer's advance changes the timer and IF, and keeps the registers that are not its counters. -/
theorem timaIncrements_shape (n : Nat) (s : State) :
    ∃ v f, timaIncrements n s = { s with timer := { s.timer with tima := v }, ifReg := f } := by
  induction n generalizing s with
  | zero => exact ⟨s.timer.tima, s.ifReg, rfl⟩
  | succ n ih =>
    obtain ⟨v, f, h⟩ := ih (timaIncrement s)
    refine ⟨v, f, ?_⟩
    rw [timaIncrements, h]
    unfold timaIncrement
    split <;> rfl

/-- `TimerAdvance(c)` changes the divider, TIMA, the accumulator and IF, and leaves the accumulator below the period while the
timer is enabled (R50). -/
theorem timerAdvance_shape (c : Nat) (s : State) :
    ∃ k v f, timerAdvance c s =
        { s with timer := { s.timer with divider := s.timer.divider + BitVec.ofNat 16 c, tacc := k, tima := v }, ifReg := f } ∧
      (timerEnabled s.timer.tac = true → k < timerPeriod s.timer.tac) := by
  unfold timerAdvance
  dsimp only
  split
  · obtain ⟨v, f, h⟩ := timaIncrements_shape
      ((s.timer.tacc + c) / timerPeriod s.timer.tac)
      { advanceDivider c s with
        timer := { (advanceDivider c s).timer with tacc := (s.timer.tacc + c) % timerPeriod s.timer.tac } }
    refine ⟨_, v, f, h, fun _ => Nat.mod_lt _ ?_⟩
    unfold timerPeriod
    split <;> omega
  · rename_i h
    exact ⟨s.timer.tacc, s.timer.tima, s.ifReg, rfl, fun he => absurd he h⟩

/-! ## The PPU -/

/-- A STAT request changes IF only. -/
theorem requestStatIf_shape (b : Bool) (s : State) : ∃ f, requestStatIf b s = { s with ifReg := f } := by
  cases b
  · exact ⟨s.ifReg, rfl⟩
  · exact ⟨_, rfl⟩

/-- A change of the PPU's position, its mode, its framebuffer and its latches, and of IF; the PPU's registers stay. -/
def PpuChange (s t : State) : Prop :=
  ∃ m d l co w fb fr f, t = { s with
    ppu := { s.ppu with mode := m, dot := d, ly := l, coincidence := co, winLine := w, fb := fb, frameReady := fr }
    ifReg := f }

theorem PpuChange.refl (s : State) : PpuChange s s := ⟨_, _, _, _, _, _, _, _, rfl⟩

theorem PpuChange.trans {s t u : State} (h : PpuChange s t) (h' : PpuChange t u) : PpuChange s u := by
  obtain ⟨_, _, _, _, _, _, _, _, rfl⟩ := h
  obtain ⟨_, _, _, _, _, _, _, _, rfl⟩ := h'
  exact ⟨_, _, _, _, _, _, _, _, rfl⟩

theorem requestStatIf_change (b : Bool) (s : State) : PpuChange s (requestStatIf b s) := by
  obtain ⟨f, h⟩ := requestStatIf_shape b s
  rw [h]
  exact ⟨_, _, _, _, _, _, _, _, rfl⟩

theorem enterDrawing_change (s : State) : PpuChange s (enterDrawing s) := by
  unfold enterDrawing
  split <;> exact ⟨_, _, _, _, _, _, _, _, rfl⟩

theorem enterHBlank_change (s : State) : PpuChange s (enterHBlank s) := by
  unfold enterHBlank
  split
  · exact PpuChange.trans (t := { renderLine s with ppu := { (renderLine s).ppu with mode := .hblank } })
      ⟨_, _, _, _, _, _, _, _, rfl⟩ (requestStatIf_change _ _)
  · exact .refl s

theorem nextLine_change (s : State) : PpuChange s (nextLine s) := by
  unfold nextLine
  split <;> exact ⟨_, _, _, _, _, _, _, _, rfl⟩

theorem enterVBlank_change (s : State) : PpuChange s (enterVBlank s) := by
  refine PpuChange.trans (t := requestInterrupt 0 { s with ppu := { s.ppu with mode := .vblank } })
    ⟨_, _, _, _, _, _, _, _, rfl⟩ ?_
  exact (requestStatIf_change _ _).trans ⟨_, _, _, _, _, _, _, _, rfl⟩

theorem enterOamScan_change (s : State) : PpuChange s (enterOamScan s) :=
  PpuChange.trans (t := { s with ppu := { s.ppu with mode := .oamScan } }) ⟨_, _, _, _, _, _, _, _, rfl⟩
    (requestStatIf_change _ _)

theorem endOfLine_change (s : State) : PpuChange s (endOfLine s) := by
  unfold endOfLine
  split
  · refine (nextLine_change s).trans ?_
    dsimp only
    split
    · exact enterVBlank_change _
    · split
      · exact enterOamScan_change _
      · exact .refl _
  · exact .refl s

theorem lycCompare_change (s : State) : PpuChange s (lycCompare s) :=
  (requestStatIf_change _ s).trans ⟨_, _, _, _, _, _, _, _, rfl⟩

/-- One PPU tick changes the PPU's inner state and IF and nothing else. -/
theorem ppuTick_change (s : State) : PpuChange s (ppuTick s) := by
  unfold ppuTick
  split
  · exact PpuChange.trans (t := advanceDot s) ⟨_, _, _, _, _, _, _, _, rfl⟩
      ((enterDrawing_change _).trans ((enterHBlank_change _).trans ((endOfLine_change _).trans (lycCompare_change _))))
  · exact ⟨_, _, _, _, _, _, _, _, rfl⟩

/-- A PPU advance changes the PPU's inner state and IF and nothing else. -/
theorem ppuAdvance_change (c : Nat) (s : State) : PpuChange s (ppuAdvance c s) := by
  induction c generalizing s with
  | zero => exact .refl s
  | succ c ih => exact (ppuTick_change s).trans (ih _)

/-! ## The PPU's position and mode -/

@[simp] theorem requestStatIf_ppu (b : Bool) (s : State) : (requestStatIf b s).ppu = s.ppu := by cases b <;> rfl

/-- A tick keeps the position on a line of a frame, and the mode the one of that position. -/
theorem ppuTick_scan {s : State} (h : ScanWf s.ppu) : ScanWf (ppuTick s).ppu := by
  obtain ⟨hline, hdot, hv, hd, ho, hh⟩ := h
  unfold ppuTick
  split
  · have hlyc : ∀ u : State, (lycCompare u).ppu.ly = u.ppu.ly ∧ (lycCompare u).ppu.dot = u.ppu.dot ∧
        (lycCompare u).ppu.mode = u.ppu.mode := by
      intro u
      unfold lycCompare
      simp
    obtain ⟨h1, h2, h3⟩ := hlyc (endOfLine (enterHBlank (enterDrawing (advanceDot s))))
    refine ScanWf.congr ?_ h1 h2 h3
    by_cases h80 : s.ppu.ly.toNat < 144 ∧ s.ppu.dot + 1 = 80
    · have e1 : (endOfLine (enterHBlank (enterDrawing (advanceDot s)))).ppu =
          { s.ppu with dot := s.ppu.dot + 1, mode := .drawing } := by
        have n1 : ¬(s.ppu.ly.toNat < 144 ∧ s.ppu.dot + 1 = 252) := by omega
        have n2 : s.ppu.dot + 1 ≠ 456 := by omega
        simp [endOfLine, enterHBlank, enterDrawing, advanceDot, h80.1, h80.2]
      rw [e1]
      constructor <;> simp <;> omega
    · by_cases h252 : s.ppu.ly.toNat < 144 ∧ s.ppu.dot + 1 = 252
      · have e1 : (endOfLine (enterHBlank (enterDrawing (advanceDot s)))).ppu =
            { (renderLine (advanceDot s)).ppu with mode := .hblank } := by
          simp [endOfLine, enterHBlank, enterDrawing, advanceDot, h252.1, h252.2, renderLine]
        rw [e1]
        constructor <;> simp [renderLine, advanceDot] <;> omega
      · have e0 : enterHBlank (enterDrawing (advanceDot s)) = advanceDot s := by
          have e : enterDrawing (advanceDot s) = advanceDot s := by
            unfold enterDrawing
            exact if_neg h80
          rw [e]
          unfold enterHBlank
          exact if_neg h252
        rw [e0]
        by_cases h456 : s.ppu.dot + 1 = 456
        · have hl : (s.ppu.ly.toNat + 1) % 256 = s.ppu.ly.toNat + 1 := Nat.mod_eq_of_lt (by omega)
          by_cases h154 : s.ppu.ly.toNat + 1 = 154
          · have e1 : (endOfLine (advanceDot s)).ppu =
                { s.ppu with dot := 0, ly := 0, winLine := 0, mode := .oamScan } := by
              simp [endOfLine, advanceDot, h456, nextLine, h154, enterOamScan]
            rw [e1]
            constructor <;> simp
          · by_cases h144 : s.ppu.ly.toNat + 1 = 144
            · have e1 : (endOfLine (advanceDot s)).ppu =
                  { s.ppu with dot := 0, ly := s.ppu.ly + 1, mode := .vblank, frameReady := true } := by
                simp [endOfLine, advanceDot, h456, nextLine, enterVBlank, h144]
              rw [e1]
              constructor <;> simp [hl] <;> omega
            · by_cases hlt : s.ppu.ly.toNat + 1 < 144
              · have e1 : (endOfLine (advanceDot s)).ppu =
                    { s.ppu with dot := 0, ly := s.ppu.ly + 1, mode := .oamScan } := by
                  simp [endOfLine, advanceDot, h456, nextLine, h154, enterOamScan, hl, h144, hlt]
                rw [e1]
                constructor <;> simp [hl] <;> omega
              · have e1 : (endOfLine (advanceDot s)).ppu = { s.ppu with dot := 0, ly := s.ppu.ly + 1 } := by
                  simp [endOfLine, advanceDot, h456, nextLine, h154, hl, h144, hlt]
                rw [e1]
                have hvb : s.ppu.mode = .vblank := hv.mpr (by omega)
                constructor <;> simp [hl, hvb] <;> omega
        · have e1 : endOfLine (advanceDot s) = advanceDot s := if_neg h456
          rw [e1]
          constructor
          · exact hline
          · show s.ppu.dot + 1 < 456
            omega
          · exact hv
          · show s.ppu.mode = .drawing ↔ s.ppu.ly.toNat < 144 ∧ 80 ≤ s.ppu.dot + 1 ∧ s.ppu.dot + 1 < 252
            rw [hd]
            constructor
            · omega
            · intro ⟨ha, hb, hc⟩
              exact ⟨ha, by omega, by omega⟩
          · show s.ppu.mode = .oamScan → s.ppu.dot + 1 < 80
            intro hm
            have := ho hm
            have hnv : ¬144 ≤ s.ppu.ly.toNat := fun hc => by simp [hv.mpr hc] at hm
            omega
          · show s.ppu.mode = .hblank → 252 ≤ s.ppu.dot + 1 ∨ (s.ppu.ly.toNat = 0 ∧ s.ppu.dot + 1 < 80)
            intro hm
            have := hh hm
            omega
  · simp only [lcdOffTick]
    constructor <;> simp

/-- A PPU advance keeps the position well formed. -/
theorem ppuAdvance_scan (c : Nat) {s : State} (h : ScanWf s.ppu) : ScanWf (ppuAdvance c s).ppu := by
  induction c generalizing s with
  | zero => exact h
  | succ c ih => exact ih (ppuTick_scan h)

/-! ## The framebuffer's shape -/

theorem lineShades_length (s : State) : (lineShades s).length = 160 := by simp [lineShades]

theorem renderLine_framebuffer {s : State} (h : FramebufferWf s.ppu) : FramebufferWf (renderLine s).ppu := by
  constructor
  · simp [renderLine, h.rows]
  · intro row hrow
    rcases List.mem_or_eq_of_mem_set hrow with h1 | h1
    · exact h.cells row h1
    · rw [h1]
      exact lineShades_length s

theorem ppuTick_framebuffer {s : State} (h : FramebufferWf s.ppu) : FramebufferWf (ppuTick s).ppu := by
  have hkeep : ∀ u : State, (endOfLine u).ppu.fb = u.ppu.fb := by
    intro u
    unfold endOfLine
    split
    · dsimp only
      split
      · simp only [enterVBlank, requestStatIf_ppu, nextLine, requestInterrupt]
        split <;> rfl
      · split
        · simp only [enterOamScan, requestStatIf_ppu, nextLine]
          split <;> rfl
        · simp only [nextLine]
          split <;> rfl
    · rfl
  unfold ppuTick
  split
  · have h1 : FramebufferWf (enterDrawing (advanceDot s)).ppu := by
      refine h.congr ?_
      unfold enterDrawing
      split <;> rfl
    have h2 : FramebufferWf (enterHBlank (enterDrawing (advanceDot s))).ppu := by
      unfold enterHBlank
      split
      · refine (renderLine_framebuffer h1).congr ?_
        simp
      · exact h1
    have h3 : ∀ u : State, (lycCompare u).ppu.fb = u.ppu.fb := fun u => by simp [lycCompare]
    exact h2.congr ((h3 _).trans (hkeep _))
  · exact h.congr rfl

theorem ppuAdvance_framebuffer (c : Nat) {s : State} (h : FramebufferWf s.ppu) : FramebufferWf (ppuAdvance c s).ppu := by
  induction c generalizing s with
  | zero => exact h
  | succ c ih => exact ih (ppuTick_framebuffer h)

/-! ## The host's part of a tick -/

/-- `SetButtons` writes the pressed set, and may request JOYPAD and end STOP; nothing else. -/
theorem setButtons_shape (b : Buttons) (s : State) :
    ∃ f r, setButtons b s = { s with
      joy := { s.joy with pressed := b }, ifReg := f, cpu := { s.cpu with run := r } } := by
  simp only [setButtons]
  split_ifs
  all_goals first
    | exact ⟨s.ifReg, s.cpu.run, rfl⟩
    | exact ⟨s.ifReg, .running, rfl⟩
    | exact ⟨_, .running, rfl⟩
    | exact ⟨_, s.cpu.run, rfl⟩

/-- After the end of a tick no frame waits. -/
theorem presentFrame_frameReady (s : State) : (presentFrame s).ppu.frameReady = false := by
  unfold presentFrame
  split
  · obtain ⟨f, r, h⟩ := setButtons_shape (pollInput s)
      { s with ppu := { s.ppu with frameReady := false }, frames := s.frames + 1, inputs := s.inputs.tail }
    rw [h]
  · rename_i h
    simpa using h

/-- The end of a tick changes the buttons, IF, the run latch, the frame flag and the model's own counters. -/
theorem presentFrame_shape (s : State) :
    ∃ j f r fr k l, presentFrame s = { s with
      joy := j, ifReg := f, cpu := { s.cpu with run := r }, ppu := { s.ppu with frameReady := fr }, frames := k, inputs := l } := by
  unfold presentFrame
  split
  · obtain ⟨f, r, h⟩ := setButtons_shape (pollInput s)
      { s with ppu := { s.ppu with frameReady := false }, frames := s.frames + 1, inputs := s.inputs.tail }
    rw [h]
    exact ⟨_, _, _, _, _, _, rfl⟩
  · exact ⟨_, _, _, _, _, _, rfl⟩

theorem quitTest_shape (s : State) : ∃ e, quitTest s = { s with ended := e } := by
  unfold quitTest
  split
  · exact ⟨true, rfl⟩
  · exact ⟨s.ended, rfl⟩

end Sys2Proof.Machine
end

