-- ==== Sys2Proof/Laws/Exec.lean ====
section
/-! SUPPORT. What an instruction's meaning can do at all: it stores to the addresses `storedAddresses` lists, in that order, and
besides that it changes the CPU's registers and the cycle count. One lemma for each shared operation, then one for `exec`. -/

namespace Sys2Proof.Machine

/-! ## A store does not look at the CPU -/

theorem oamDma_foldl_withCpu (v : Byte) (s : State) (c : Cpu) (n : Nat) (l : List Nat) :
    l.foldl (oamDmaByte v) { s with cpu := c, cycles := n } =
      { l.foldl (oamDmaByte v) s with cpu := c, cycles := n } := by
  induction l generalizing s with
  | nil => rfl
  | cons i l ih => exact ih (oamDmaByte v s i)

theorem ioWrite_withCpu (s : State) (c : Cpu) (n : Nat) (r : IoReg) (v : Byte) :
    ioWrite { s with cpu := c, cycles := n } r v = { ioWrite s r v with cpu := c, cycles := n } := by
  cases r
  case dma => exact oamDma_foldl_withCpu v { s with dma := v } c n _
  all_goals rfl

theorem cartWrite_withCpu (s : State) (c : Cpu) (n : Nat) (x : Nat) (v : Byte) :
    cartWrite { s with cpu := c, cycles := n } x v = { cartWrite s x v with cpu := c, cycles := n } := by
  simp only [cartWrite]
  split <;> [rfl; (split <;> [rfl; (split <;> [rfl; (split <;> rfl)])])]

theorem extRamWrite_withCpu (s : State) (c : Cpu) (n : Nat) (o : Nat) (v : Byte) :
    extRamWrite { s with cpu := c, cycles := n } o v = { extRamWrite s o v with cpu := c, cycles := n } := by
  have h : extRamOffset { s with cpu := c, cycles := n } o = extRamOffset s o := rfl
  simp only [extRamWrite, h]
  split <;> rfl

/-- A store is the same whatever the CPU holds. -/
theorem memWrite_withCpu (s : State) (c : Cpu) (n : Nat) (a : Word) (v : Byte) :
    memWrite { s with cpu := c, cycles := n } a v = { memWrite s a v with cpu := c, cycles := n } := by
  unfold memWrite
  split
  · exact cartWrite_withCpu s c n _ v
  · rfl
  · exact extRamWrite_withCpu s c n _ v
  · rfl
  · rfl
  · rfl
  · exact ioWrite_withCpu s c n _ v
  · rfl
  · rfl

theorem memWrite_setSP (s : State) (w : Word) (a : Word) (v : Byte) : memWrite (s.setSP w) a v = (memWrite s a v).setSP w := by
  have h := memWrite_withCpu s { s.cpu with sp := w } s.cycles a v
  have h1 : memWrite (s.setSP w) a v = { memWrite s a v with cpu := { s.cpu with sp := w }, cycles := s.cycles } := h
  rw [h1, ← memWrite_cpu s a v, ← memWrite_cycles s a v]
  simp [State.setSP]

theorem memWrite_setIme (s : State) (b : Bool) (a : Word) (v : Byte) : memWrite (s.setIme b) a v = (memWrite s a v).setIme b := by
  have h1 : memWrite (s.setIme b) a v = { memWrite s a v with cpu := { s.cpu with ime := b }, cycles := s.cycles } :=
    memWrite_withCpu s { s.cpu with ime := b } s.cycles a v
  rw [h1, ← memWrite_cpu s a v, ← memWrite_cycles s a v]
  rfl

theorem memWrite_setImePending (s : State) (b : Bool) (a : Word) (v : Byte) :
    memWrite (s.setImePending b) a v = (memWrite s a v).setImePending b := by
  have h1 : memWrite (s.setImePending b) a v =
      { memWrite s a v with cpu := { s.cpu with imePending := b }, cycles := s.cycles } :=
    memWrite_withCpu s { s.cpu with imePending := b } s.cycles a v
  rw [h1, ← memWrite_cpu s a v, ← memWrite_cycles s a v]
  rfl

/-- `Push16` writes the high byte at SP - 1 and the low byte at SP - 2, and leaves SP at SP - 2 (spec/00_scope.md R12). -/
theorem push16_eq (s : State) (v : Word) :
    push16 s v = (memWrite (memWrite s (s.cpu.sp - 1) (hiByte v)) (s.cpu.sp - 2) (loByte v)).setSP (s.cpu.sp - 2) := by
  have h2 : s.cpu.sp - 1 - 1 = s.cpu.sp - 2 := by bv_omega
  simp only [push16, memWrite_setSP, State.setSP_cpu, memWrite_cpu, h2]
  simp [State.setSP]

/-! ## The effect of a meaning -/

/-- F's low nibble stays zero. -/
def KeepsFlags (s : State) (c : Cpu) : Prop := s.cpu.f &&& 0x0F = 0 → c.f &&& 0x0F = 0

/-- A cycle count of an instruction: a multiple of 4 from 4 to 24 (spec/70_reset_and_hazards.md R540, R545). -/
def CycleCount (n : Nat) : Prop := 4 ≤ n ∧ n ≤ 24 ∧ n % 4 = 0

/-- Everything a meaning that answers a next state can do, by the addresses it stores to. -/
inductive ExecEffect (s : State) : List Word → State → Prop
  | registers (c : Cpu) (n : Nat) (hf : KeepsFlags s c) (hn : CycleCount n) :
      ExecEffect s [] { s with cpu := c, cycles := n }
  | store (a : Word) (v : Byte) (c : Cpu) (n : Nat) (hf : KeepsFlags s c) (hn : CycleCount n) :
      ExecEffect s [a] { memWrite s a v with cpu := c, cycles := n }
  | stores (a : Word) (v : Byte) (a' : Word) (v' : Byte) (c : Cpu) (n : Nat) (hf : KeepsFlags s c) (hn : CycleCount n) :
      ExecEffect s [a, a'] { memWrite (memWrite s a v) a' v' with cpu := c, cycles := n }

theorem keepsFlags_same {s : State} {c : Cpu} (h : c.f = s.cpu.f) : KeepsFlags s c := fun hs => by rw [h]; exact hs

theorem keepsFlags_masked {s : State} {c : Cpu} {v : Byte} (h : c.f = v &&& 0xF0) : KeepsFlags s c := fun _ => by
  rw [h]; exact and_F0_and_0F v

/-- A register-only change that leaves F alone. -/
theorem effect_registers {s : State} (c : Cpu) (n : Nat) (hf : c.f = s.cpu.f) (hn : CycleCount n) :
    ExecEffect s [] { s with cpu := c, cycles := n } := .registers c n (keepsFlags_same hf) hn

/-- A register-only change that writes F through the mask. -/
theorem effect_flags {s : State} (c : Cpu) (n : Nat) {v : Byte} (hf : c.f = v &&& 0xF0) (hn : CycleCount n) :
    ExecEffect s [] { s with cpu := c, cycles := n } := .registers c n (keepsFlags_masked hf) hn

theorem cycleCount_4 : CycleCount 4 := by unfold CycleCount; omega
theorem cycleCount_8 : CycleCount 8 := by unfold CycleCount; omega
theorem cycleCount_12 : CycleCount 12 := by unfold CycleCount; omega
theorem cycleCount_16 : CycleCount 16 := by unfold CycleCount; omega
theorem cycleCount_20 : CycleCount 20 := by unfold CycleCount; omega
theorem cycleCount_24 : CycleCount 24 := by unfold CycleCount; omega

theorem loadReg_effect (dst src : Reg8) (s : State) : ExecEffect s [] (loadReg dst src s) := by
  cases dst <;> exact effect_registers _ _ rfl cycleCount_4

theorem loadImm_effect (dst : Reg8) (n : Byte) (s : State) : ExecEffect s [] (loadImm dst n s) := by
  cases dst <;> exact effect_registers _ _ rfl cycleCount_8

theorem loadFromHL_effect (dst : Reg8) (s : State) : ExecEffect s [] (loadFromHL dst s) := by
  cases dst <;> exact effect_registers _ _ rfl cycleCount_8

/-- A store whose state is written as an update of the stored state. -/
theorem effect_store {s : State} (a : Word) (v : Byte) (c : Cpu) (n : Nat) (hc : c = s.cpu) (hn : CycleCount n) :
    ExecEffect s [a] { memWrite s a v with cpu := c, cycles := n } := .store a v c n (keepsFlags_same (by rw [hc])) hn

theorem storeToHL_effect (r : Reg8) (s : State) : ExecEffect s [s.hl] (storeToHL r s) :=
  effect_store _ _ _ _ (memWrite_cpu _ _ _) cycleCount_8

theorem loadA_effect (a : Word) {n : Nat} (s : State) (hn : CycleCount n) : ExecEffect s [] (loadA a n s) :=
  effect_registers _ _ rfl hn

theorem storeA_effect (a : Word) {n : Nat} (s : State) (hn : CycleCount n) : ExecEffect s [a] (storeA a n s) :=
  effect_store _ _ _ _ (memWrite_cpu _ _ _) hn

theorem loadA_move_effect (a delta : Word) {n : Nat} (s : State) (hn : CycleCount n) :
    ExecEffect s [] (thenMoveHL delta (loadA a n s)) := effect_registers _ _ rfl hn

theorem storeA_move_effect (a delta : Word) {n : Nat} (s : State) (hn : CycleCount n) :
    ExecEffect s [a] (thenMoveHL delta (storeA a n s)) :=
  .store a _ _ _ (keepsFlags_same (show (memWrite s a s.cpu.a).cpu.f = s.cpu.f by rw [memWrite_cpu])) hn

theorem loadPair_effect (p : Reg16) (v : Word) (s : State) : ExecEffect s [] (loadPair p v s) := by
  cases p <;> exact effect_registers _ _ rfl cycleCount_12

theorem storeSP_effect (a : Word) (s : State) : ExecEffect s [a, a + 1] (storeSP a s) := by
  refine ExecEffect.stores a (loByte s.cpu.sp) (a + 1) _ _ 20 (keepsFlags_same ?_) cycleCount_20
  simp

theorem pushValue_effect {s : State} (v : Word) {n : Nat} (c : Cpu) (hf : c.f = s.cpu.f) (hn : CycleCount n) :
    ExecEffect s (pushedBytes s) { push16 s v with cpu := c, cycles := n } := by
  rw [push16_eq]
  exact .stores _ _ _ _ c n (keepsFlags_same hf) hn

theorem push16_cpu_f (s : State) (v : Word) : (push16 s v).cpu.f = s.cpu.f := by
  rw [push16_eq]; simp

theorem pushPair_effect (p : StkPair) (s : State) : ExecEffect s (pushedBytes s) (pushPair p s) :=
  pushValue_effect _ _ (push16_cpu_f _ _) cycleCount_16

theorem popPair_effect (p : StkPair) (s : State) : ExecEffect s [] (popPair p s) := by
  cases p
  · exact effect_registers _ _ rfl cycleCount_12
  · exact effect_registers _ _ rfl cycleCount_12
  · exact effect_registers _ _ rfl cycleCount_12
  · exact effect_flags _ _ rfl cycleCount_12

theorem aluWith_effect (op : AluOp) (v : Byte) {n : Nat} (s : State) (hn : CycleCount n) :
    ExecEffect s [] (aluWith op v n s) := by
  cases op <;> exact effect_flags _ _ rfl hn

theorem setReg8_flags_effect (r : Reg8) (v w : Byte) {n : Nat} (s : State) (hn : CycleCount n) :
    ExecEffect s [] (((s.setReg8 r v).setF w).withCycles n) := by
  cases r <;> exact effect_flags _ _ rfl hn

theorem setReg8_effect (r : Reg8) (v : Byte) {n : Nat} (s : State) (hn : CycleCount n) :
    ExecEffect s [] ((s.setReg8 r v).withCycles n) := by
  cases r <;> exact effect_registers _ _ rfl hn

theorem store_flags_effect (a : Word) (v w : Byte) {n : Nat} (s : State) (hn : CycleCount n) :
    ExecEffect s [a] (((memWrite s a v).setF w).withCycles n) :=
  .store a v _ n (keepsFlags_masked rfl) hn

theorem setA_flags_effect (v w : Byte) {n : Nat} (s : State) (hn : CycleCount n) :
    ExecEffect s [] (((s.setA v).setF w).withCycles n) := effect_flags _ _ rfl hn

theorem setPair_effect (p : Reg16) (v : Word) {n : Nat} (s : State) (hn : CycleCount n) :
    ExecEffect s [] ((s.setPair p v).withCycles n) := by
  cases p <;> exact effect_registers _ _ rfl hn

theorem callTo_effect (a : Word) {n : Nat} (s : State) (hn : CycleCount n) :
    ExecEffect s (pushedBytes s) (callTo a n s) := pushValue_effect _ _ (push16_cpu_f _ _) hn

theorem jumpCond_effect (cc : Cond) (a : Word) (s : State) : ExecEffect s [] (jumpCond cc a s) := by
  unfold jumpCond
  split
  · exact effect_registers _ _ rfl cycleCount_16
  · exact effect_registers _ _ rfl cycleCount_12

theorem jumpRelCond_effect (cc : Cond) (e : Byte) (s : State) : ExecEffect s [] (jumpRelCond cc e s) := by
  unfold jumpRelCond
  split
  · exact effect_registers _ _ rfl cycleCount_12
  · exact effect_registers _ _ rfl cycleCount_8

theorem callCond_effect (cc : Cond) (a : Word) (s : State) :
    ExecEffect s (storedIf (condHolds s cc) (pushedBytes s)) (callCond cc a s) := by
  unfold callCond storedIf
  split
  · exact callTo_effect a s cycleCount_24
  · exact effect_registers _ _ rfl cycleCount_12

theorem returnTo_effect {n : Nat} (s : State) (hn : CycleCount n) : ExecEffect s [] (returnTo n s) :=
  effect_registers _ _ rfl hn

theorem returnCond_effect (cc : Cond) (s : State) : ExecEffect s [] (returnCond cc s) := by
  unfold returnCond
  split
  · exact returnTo_effect s cycleCount_20
  · exact effect_registers _ _ rfl cycleCount_8

/-! ## The prefix: its operation by the fields of the second byte -/

/-- What an operation behind 0xCB stores to. -/
def cbStores (s : State) : Operand8 → List Word
  | .reg _ => []
  | .atHL => [s.hl]

theorem rotateOperand_effect (op : RotOp) (o : Operand8) (s : State) : ExecEffect s (cbStores s o) (rotateOperand op o s) := by
  cases o with
  | reg r => exact setReg8_flags_effect r _ _ s cycleCount_8
  | atHL => exact store_flags_effect _ _ _ s cycleCount_16

theorem testBit_effect (n : Fin 8) (o : Operand8) (s : State) : ExecEffect s [] (testBit n o s) := by
  cases o with
  | reg r => exact effect_flags _ _ rfl cycleCount_8
  | atHL => exact effect_flags _ _ rfl cycleCount_12

theorem resetBit_effect (n : Fin 8) (o : Operand8) (s : State) : ExecEffect s (cbStores s o) (resetBit n o s) := by
  cases o with
  | reg r => exact setReg8_effect r _ s cycleCount_8
  | atHL => exact effect_store _ _ _ _ (memWrite_cpu _ _ _) cycleCount_16

theorem setBit_effect (n : Fin 8) (o : Operand8) (s : State) : ExecEffect s (cbStores s o) (setBit n o s) := by
  cases o with
  | reg r => exact setReg8_effect r _ s cycleCount_8
  | atHL => exact effect_store _ _ _ _ (memWrite_cpu _ _ _) cycleCount_16

theorem cbStores_operand8At (s : State) (z : Nat) : cbStores s (operand8At (z % 8)) = storedIf (decide (z % 8 = 6)) [s.hl] := by
  have h : z % 8 < 8 := Nat.mod_lt _ (by omega)
  generalize z % 8 = k at h
  interval_cases k <;> rfl

theorem cbOperation_effect (op2 : Byte) (s : State) :
    ExecEffect s (storedIf (decide (op2.toNat % 8 = 6) && decide (op2.toNat / 64 ≠ 1)) [s.hl]) (cbOperation op2 s) := by
  have hs := cbStores_operand8At s op2.toNat
  unfold cbOperation
  dsimp only
  split
  · rename_i h
    simpa [h, ← hs] using rotateOperand_effect _ (operand8At (op2.toNat % 8)) s
  · rename_i h
    simpa [h, storedIf] using testBit_effect _ (operand8At (op2.toNat % 8)) s
  · rename_i h
    simpa [h, ← hs] using resetBit_effect _ (operand8At (op2.toNat % 8)) s
  · rename_i h0 h1 h2
    have h : op2.toNat / 64 ≠ 1 := h1
    simpa [h, ← hs] using setBit_effect _ (operand8At (op2.toNat % 8)) s

/-! ## Every instruction -/

theorem effect_of {s t u : State} {l : List Word} (h : Host.Outcome.next u = (.next t : Result)) (he : ExecEffect s l u) :
    ExecEffect s l t := by
  injection h with h
  exact h ▸ he

/-- Whatever instruction runs: if its meaning answers a next state, that state is the old one with the bytes at
`storedAddresses` stored and the CPU's registers and the cycle count changed, and F's low nibble stays zero. -/
theorem exec_effect {i : Instr} {s t : State} (h : exec i s = .next t) : ExecEffect s (storedAddresses s i) t := by
  cases i with
  | illegal u => exact absurd h nofun
  | nop => exact effect_of h (effect_registers _ _ rfl cycleCount_4)
  | ld_bc_nn nn => exact effect_of h (loadPair_effect .bc nn s)
  | ld_atBC_a => exact effect_of h (storeA_effect _ s cycleCount_8)
  | inc_bc => exact effect_of h (setPair_effect .bc _ s cycleCount_8)
  | inc_b => exact effect_of h (setReg8_flags_effect _ _ _ s cycleCount_4)
  | dec_b => exact effect_of h (setReg8_flags_effect _ _ _ s cycleCount_4)
  | ld_b_n n => exact effect_of h (loadImm_effect .b n s)
  | rlca => exact effect_of h (setA_flags_effect _ _ s cycleCount_4)
  | ld_atNN_sp nn => exact effect_of h (storeSP_effect nn s)
  | add_hl_bc => exact effect_of h (effect_flags _ _ rfl cycleCount_8)
  | ld_a_atBC => exact effect_of h (loadA_effect _ s cycleCount_8)
  | dec_bc => exact effect_of h (setPair_effect .bc _ s cycleCount_8)
  | inc_c => exact effect_of h (setReg8_flags_effect _ _ _ s cycleCount_4)
  | dec_c => exact effect_of h (setReg8_flags_effect _ _ _ s cycleCount_4)
  | ld_c_n n => exact effect_of h (loadImm_effect .c n s)
  | rrca => exact effect_of h (setA_flags_effect _ _ s cycleCount_4)
  | stop _ => exact effect_of h (effect_registers _ _ rfl cycleCount_4)
  | ld_de_nn nn => exact effect_of h (loadPair_effect .de nn s)
  | ld_atDE_a => exact effect_of h (storeA_effect _ s cycleCount_8)
  | inc_de => exact effect_of h (setPair_effect .de _ s cycleCount_8)
  | inc_d => exact effect_of h (setReg8_flags_effect _ _ _ s cycleCount_4)
  | dec_d => exact effect_of h (setReg8_flags_effect _ _ _ s cycleCount_4)
  | ld_d_n n => exact effect_of h (loadImm_effect .d n s)
  | rla => exact effect_of h (setA_flags_effect _ _ s cycleCount_4)
  | jr_e _ => exact effect_of h (effect_registers _ _ rfl cycleCount_12)
  | add_hl_de => exact effect_of h (effect_flags _ _ rfl cycleCount_8)
  | ld_a_atDE => exact effect_of h (loadA_effect _ s cycleCount_8)
  | dec_de => exact effect_of h (setPair_effect .de _ s cycleCount_8)
  | inc_e => exact effect_of h (setReg8_flags_effect _ _ _ s cycleCount_4)
  | dec_e => exact effect_of h (setReg8_flags_effect _ _ _ s cycleCount_4)
  | ld_e_n n => exact effect_of h (loadImm_effect .e n s)
  | rra => exact effect_of h (setA_flags_effect _ _ s cycleCount_4)
  | jr_nz_e e => exact effect_of h (jumpRelCond_effect .nz e s)
  | ld_hl_nn nn => exact effect_of h (loadPair_effect .hl nn s)
  | ld_atHLinc_a => exact effect_of h (storeA_move_effect _ _ s cycleCount_8)
  | inc_hl => exact effect_of h (setPair_effect .hl _ s cycleCount_8)
  | inc_h => exact effect_of h (setReg8_flags_effect _ _ _ s cycleCount_4)
  | dec_h => exact effect_of h (setReg8_flags_effect _ _ _ s cycleCount_4)
  | ld_h_n n => exact effect_of h (loadImm_effect .h n s)
  | daa => exact effect_of h (setA_flags_effect _ _ s cycleCount_4)
  | jr_z_e e => exact effect_of h (jumpRelCond_effect .z e s)
  | add_hl_hl => exact effect_of h (effect_flags _ _ rfl cycleCount_8)
  | ld_a_atHLinc => exact effect_of h (loadA_move_effect _ _ s cycleCount_8)
  | dec_hl => exact effect_of h (setPair_effect .hl _ s cycleCount_8)
  | inc_l => exact effect_of h (setReg8_flags_effect _ _ _ s cycleCount_4)
  | dec_l => exact effect_of h (setReg8_flags_effect _ _ _ s cycleCount_4)
  | ld_l_n n => exact effect_of h (loadImm_effect .l n s)
  | cpl => exact effect_of h (effect_flags _ _ rfl cycleCount_4)
  | jr_nc_e e => exact effect_of h (jumpRelCond_effect .nc e s)
  | ld_sp_nn nn => exact effect_of h (loadPair_effect .sp nn s)
  | ld_atHLdec_a => exact effect_of h (storeA_move_effect _ _ s cycleCount_8)
  | inc_sp => exact effect_of h (setPair_effect .sp _ s cycleCount_8)
  | inc_atHL => exact effect_of h (store_flags_effect _ _ _ s cycleCount_12)
  | dec_atHL => exact effect_of h (store_flags_effect _ _ _ s cycleCount_12)
  | ld_atHL_n _ => exact effect_of h (effect_store _ _ _ _ (memWrite_cpu _ _ _) cycleCount_12)
  | scf => exact effect_of h (effect_flags _ _ rfl cycleCount_4)
  | jr_c_e e => exact effect_of h (jumpRelCond_effect .c e s)
  | add_hl_sp => exact effect_of h (effect_flags _ _ rfl cycleCount_8)
  | ld_a_atHLdec => exact effect_of h (loadA_move_effect _ _ s cycleCount_8)
  | dec_sp => exact effect_of h (setPair_effect .sp _ s cycleCount_8)
  | inc_a => exact effect_of h (setReg8_flags_effect _ _ _ s cycleCount_4)
  | dec_a => exact effect_of h (setReg8_flags_effect _ _ _ s cycleCount_4)
  | ld_a_n n => exact effect_of h (loadImm_effect .a n s)
  | ccf => exact effect_of h (effect_flags _ _ rfl cycleCount_4)
  | ld_b_b => exact effect_of h (loadReg_effect .b .b s)
  | ld_b_c => exact effect_of h (loadReg_effect .b .c s)
  | ld_b_d => exact effect_of h (loadReg_effect .b .d s)
  | ld_b_e => exact effect_of h (loadReg_effect .b .e s)
  | ld_b_h => exact effect_of h (loadReg_effect .b .h s)
  | ld_b_l => exact effect_of h (loadReg_effect .b .l s)
  | ld_b_atHL => exact effect_of h (loadFromHL_effect .b s)
  | ld_b_a => exact effect_of h (loadReg_effect .b .a s)
  | ld_c_b => exact effect_of h (loadReg_effect .c .b s)
  | ld_c_c => exact effect_of h (loadReg_effect .c .c s)
  | ld_c_d => exact effect_of h (loadReg_effect .c .d s)
  | ld_c_e => exact effect_of h (loadReg_effect .c .e s)
  | ld_c_h => exact effect_of h (loadReg_effect .c .h s)
  | ld_c_l => exact effect_of h (loadReg_effect .c .l s)
  | ld_c_atHL => exact effect_of h (loadFromHL_effect .c s)
  | ld_c_a => exact effect_of h (loadReg_effect .c .a s)
  | ld_d_b => exact effect_of h (loadReg_effect .d .b s)
  | ld_d_c => exact effect_of h (loadReg_effect .d .c s)
  | ld_d_d => exact effect_of h (loadReg_effect .d .d s)
  | ld_d_e => exact effect_of h (loadReg_effect .d .e s)
  | ld_d_h => exact effect_of h (loadReg_effect .d .h s)
  | ld_d_l => exact effect_of h (loadReg_effect .d .l s)
  | ld_d_atHL => exact effect_of h (loadFromHL_effect .d s)
  | ld_d_a => exact effect_of h (loadReg_effect .d .a s)
  | ld_e_b => exact effect_of h (loadReg_effect .e .b s)
  | ld_e_c => exact effect_of h (loadReg_effect .e .c s)
  | ld_e_d => exact effect_of h (loadReg_effect .e .d s)
  | ld_e_e => exact effect_of h (loadReg_effect .e .e s)
  | ld_e_h => exact effect_of h (loadReg_effect .e .h s)
  | ld_e_l => exact effect_of h (loadReg_effect .e .l s)
  | ld_e_atHL => exact effect_of h (loadFromHL_effect .e s)
  | ld_e_a => exact effect_of h (loadReg_effect .e .a s)
  | ld_h_b => exact effect_of h (loadReg_effect .h .b s)
  | ld_h_c => exact effect_of h (loadReg_effect .h .c s)
  | ld_h_d => exact effect_of h (loadReg_effect .h .d s)
  | ld_h_e => exact effect_of h (loadReg_effect .h .e s)
  | ld_h_h => exact effect_of h (loadReg_effect .h .h s)
  | ld_h_l => exact effect_of h (loadReg_effect .h .l s)
  | ld_h_atHL => exact effect_of h (loadFromHL_effect .h s)
  | ld_h_a => exact effect_of h (loadReg_effect .h .a s)
  | ld_l_b => exact effect_of h (loadReg_effect .l .b s)
  | ld_l_c => exact effect_of h (loadReg_effect .l .c s)
  | ld_l_d => exact effect_of h (loadReg_effect .l .d s)
  | ld_l_e => exact effect_of h (loadReg_effect .l .e s)
  | ld_l_h => exact effect_of h (loadReg_effect .l .h s)
  | ld_l_l => exact effect_of h (loadReg_effect .l .l s)
  | ld_l_atHL => exact effect_of h (loadFromHL_effect .l s)
  | ld_l_a => exact effect_of h (loadReg_effect .l .a s)
  | ld_atHL_b => exact effect_of h (storeToHL_effect .b s)
  | ld_atHL_c => exact effect_of h (storeToHL_effect .c s)
  | ld_atHL_d => exact effect_of h (storeToHL_effect .d s)
  | ld_atHL_e => exact effect_of h (storeToHL_effect .e s)
  | ld_atHL_h => exact effect_of h (storeToHL_effect .h s)
  | ld_atHL_l => exact effect_of h (storeToHL_effect .l s)
  | halt => exact effect_of h (effect_registers _ _ rfl cycleCount_4)
  | ld_atHL_a => exact effect_of h (storeToHL_effect .a s)
  | ld_a_b => exact effect_of h (loadReg_effect .a .b s)
  | ld_a_c => exact effect_of h (loadReg_effect .a .c s)
  | ld_a_d => exact effect_of h (loadReg_effect .a .d s)
  | ld_a_e => exact effect_of h (loadReg_effect .a .e s)
  | ld_a_h => exact effect_of h (loadReg_effect .a .h s)
  | ld_a_l => exact effect_of h (loadReg_effect .a .l s)
  | ld_a_atHL => exact effect_of h (loadFromHL_effect .a s)
  | ld_a_a => exact effect_of h (loadReg_effect .a .a s)
  | add_a_b => exact effect_of h (aluWith_effect .add _ s cycleCount_4)
  | add_a_c => exact effect_of h (aluWith_effect .add _ s cycleCount_4)
  | add_a_d => exact effect_of h (aluWith_effect .add _ s cycleCount_4)
  | add_a_e => exact effect_of h (aluWith_effect .add _ s cycleCount_4)
  | add_a_h => exact effect_of h (aluWith_effect .add _ s cycleCount_4)
  | add_a_l => exact effect_of h (aluWith_effect .add _ s cycleCount_4)
  | add_a_atHL => exact effect_of h (aluWith_effect .add _ s cycleCount_8)
  | add_a_a => exact effect_of h (aluWith_effect .add _ s cycleCount_4)
  | adc_a_b => exact effect_of h (aluWith_effect .adc _ s cycleCount_4)
  | adc_a_c => exact effect_of h (aluWith_effect .adc _ s cycleCount_4)
  | adc_a_d => exact effect_of h (aluWith_effect .adc _ s cycleCount_4)
  | adc_a_e => exact effect_of h (aluWith_effect .adc _ s cycleCount_4)
  | adc_a_h => exact effect_of h (aluWith_effect .adc _ s cycleCount_4)
  | adc_a_l => exact effect_of h (aluWith_effect .adc _ s cycleCount_4)
  | adc_a_atHL => exact effect_of h (aluWith_effect .adc _ s cycleCount_8)
  | adc_a_a => exact effect_of h (aluWith_effect .adc _ s cycleCount_4)
  | sub_b => exact effect_of h (aluWith_effect .sub _ s cycleCount_4)
  | sub_c => exact effect_of h (aluWith_effect .sub _ s cycleCount_4)
  | sub_d => exact effect_of h (aluWith_effect .sub _ s cycleCount_4)
  | sub_e => exact effect_of h (aluWith_effect .sub _ s cycleCount_4)
  | sub_h => exact effect_of h (aluWith_effect .sub _ s cycleCount_4)
  | sub_l => exact effect_of h (aluWith_effect .sub _ s cycleCount_4)
  | sub_atHL => exact effect_of h (aluWith_effect .sub _ s cycleCount_8)
  | sub_a => exact effect_of h (aluWith_effect .sub _ s cycleCount_4)
  | sbc_a_b => exact effect_of h (aluWith_effect .sbc _ s cycleCount_4)
  | sbc_a_c => exact effect_of h (aluWith_effect .sbc _ s cycleCount_4)
  | sbc_a_d => exact effect_of h (aluWith_effect .sbc _ s cycleCount_4)
  | sbc_a_e => exact effect_of h (aluWith_effect .sbc _ s cycleCount_4)
  | sbc_a_h => exact effect_of h (aluWith_effect .sbc _ s cycleCount_4)
  | sbc_a_l => exact effect_of h (aluWith_effect .sbc _ s cycleCount_4)
  | sbc_a_atHL => exact effect_of h (aluWith_effect .sbc _ s cycleCount_8)
  | sbc_a_a => exact effect_of h (aluWith_effect .sbc _ s cycleCount_4)
  | and_b => exact effect_of h (aluWith_effect .and _ s cycleCount_4)
  | and_c => exact effect_of h (aluWith_effect .and _ s cycleCount_4)
  | and_d => exact effect_of h (aluWith_effect .and _ s cycleCount_4)
  | and_e => exact effect_of h (aluWith_effect .and _ s cycleCount_4)
  | and_h => exact effect_of h (aluWith_effect .and _ s cycleCount_4)
  | and_l => exact effect_of h (aluWith_effect .and _ s cycleCount_4)
  | and_atHL => exact effect_of h (aluWith_effect .and _ s cycleCount_8)
  | and_a => exact effect_of h (aluWith_effect .and _ s cycleCount_4)
  | xor_b => exact effect_of h (aluWith_effect .xor _ s cycleCount_4)
  | xor_c => exact effect_of h (aluWith_effect .xor _ s cycleCount_4)
  | xor_d => exact effect_of h (aluWith_effect .xor _ s cycleCount_4)
  | xor_e => exact effect_of h (aluWith_effect .xor _ s cycleCount_4)
  | xor_h => exact effect_of h (aluWith_effect .xor _ s cycleCount_4)
  | xor_l => exact effect_of h (aluWith_effect .xor _ s cycleCount_4)
  | xor_atHL => exact effect_of h (aluWith_effect .xor _ s cycleCount_8)
  | xor_a => exact effect_of h (aluWith_effect .xor _ s cycleCount_4)
  | or_b => exact effect_of h (aluWith_effect .or _ s cycleCount_4)
  | or_c => exact effect_of h (aluWith_effect .or _ s cycleCount_4)
  | or_d => exact effect_of h (aluWith_effect .or _ s cycleCount_4)
  | or_e => exact effect_of h (aluWith_effect .or _ s cycleCount_4)
  | or_h => exact effect_of h (aluWith_effect .or _ s cycleCount_4)
  | or_l => exact effect_of h (aluWith_effect .or _ s cycleCount_4)
  | or_atHL => exact effect_of h (aluWith_effect .or _ s cycleCount_8)
  | or_a => exact effect_of h (aluWith_effect .or _ s cycleCount_4)
  | cp_b => exact effect_of h (aluWith_effect .cp _ s cycleCount_4)
  | cp_c => exact effect_of h (aluWith_effect .cp _ s cycleCount_4)
  | cp_d => exact effect_of h (aluWith_effect .cp _ s cycleCount_4)
  | cp_e => exact effect_of h (aluWith_effect .cp _ s cycleCount_4)
  | cp_h => exact effect_of h (aluWith_effect .cp _ s cycleCount_4)
  | cp_l => exact effect_of h (aluWith_effect .cp _ s cycleCount_4)
  | cp_atHL => exact effect_of h (aluWith_effect .cp _ s cycleCount_8)
  | cp_a => exact effect_of h (aluWith_effect .cp _ s cycleCount_4)
  | ret_nz => exact effect_of h (returnCond_effect .nz s)
  | pop_bc => exact effect_of h (popPair_effect .bc s)
  | jp_nz_nn nn => exact effect_of h (jumpCond_effect .nz nn s)
  | jp_nn _ => exact effect_of h (effect_registers _ _ rfl cycleCount_16)
  | call_nz_nn nn => exact effect_of h (callCond_effect .nz nn s)
  | push_bc => exact effect_of h (pushPair_effect .bc s)
  | add_a_n _ => exact effect_of h (aluWith_effect .add _ s cycleCount_8)
  | rst_00 => exact effect_of h (callTo_effect _ s cycleCount_16)
  | ret_z => exact effect_of h (returnCond_effect .z s)
  | ret => exact effect_of h (returnTo_effect s cycleCount_16)
  | jp_z_nn nn => exact effect_of h (jumpCond_effect .z nn s)
  | prefix_cb op2 => exact effect_of h (cbOperation_effect op2 s)
  | call_z_nn nn => exact effect_of h (callCond_effect .z nn s)
  | call_nn _ => exact effect_of h (callTo_effect _ s cycleCount_24)
  | adc_a_n _ => exact effect_of h (aluWith_effect .adc _ s cycleCount_8)
  | rst_08 => exact effect_of h (callTo_effect _ s cycleCount_16)
  | ret_nc => exact effect_of h (returnCond_effect .nc s)
  | pop_de => exact effect_of h (popPair_effect .de s)
  | jp_nc_nn nn => exact effect_of h (jumpCond_effect .nc nn s)
  | call_nc_nn nn => exact effect_of h (callCond_effect .nc nn s)
  | push_de => exact effect_of h (pushPair_effect .de s)
  | sub_n _ => exact effect_of h (aluWith_effect .sub _ s cycleCount_8)
  | rst_10 => exact effect_of h (callTo_effect _ s cycleCount_16)
  | ret_c => exact effect_of h (returnCond_effect .c s)
  | reti => exact effect_of h (effect_registers _ _ rfl cycleCount_16)
  | jp_c_nn nn => exact effect_of h (jumpCond_effect .c nn s)
  | call_c_nn nn => exact effect_of h (callCond_effect .c nn s)
  | sbc_a_n _ => exact effect_of h (aluWith_effect .sbc _ s cycleCount_8)
  | rst_18 => exact effect_of h (callTo_effect _ s cycleCount_16)
  | ldh_atN_a _ => exact effect_of h (storeA_effect _ s cycleCount_12)
  | pop_hl => exact effect_of h (popPair_effect .hl s)
  | ld_atC_a => exact effect_of h (storeA_effect _ s cycleCount_8)
  | push_hl => exact effect_of h (pushPair_effect .hl s)
  | and_n _ => exact effect_of h (aluWith_effect .and _ s cycleCount_8)
  | rst_20 => exact effect_of h (callTo_effect _ s cycleCount_16)
  | add_sp_e _ => exact effect_of h (effect_flags _ _ rfl cycleCount_16)
  | jp_hl => exact effect_of h (effect_registers _ _ rfl cycleCount_4)
  | ld_atNN_a _ => exact effect_of h (storeA_effect _ s cycleCount_16)
  | xor_n _ => exact effect_of h (aluWith_effect .xor _ s cycleCount_8)
  | rst_28 => exact effect_of h (callTo_effect _ s cycleCount_16)
  | ldh_a_atN _ => exact effect_of h (loadA_effect _ s cycleCount_12)
  | pop_af => exact effect_of h (popPair_effect .af s)
  | ld_a_atC => exact effect_of h (loadA_effect _ s cycleCount_8)
  | di => exact effect_of h (effect_registers _ _ rfl cycleCount_4)
  | push_af => exact effect_of h (pushPair_effect .af s)
  | or_n _ => exact effect_of h (aluWith_effect .or _ s cycleCount_8)
  | rst_30 => exact effect_of h (callTo_effect _ s cycleCount_16)
  | ld_hl_sp_e _ => exact effect_of h (effect_flags _ _ rfl cycleCount_12)
  | ld_sp_hl => exact effect_of h (effect_registers _ _ rfl cycleCount_8)
  | ld_a_atNN _ => exact effect_of h (loadA_effect _ s cycleCount_16)
  | ei => exact effect_of h (effect_registers _ _ rfl cycleCount_4)
  | cp_n _ => exact effect_of h (aluWith_effect .cp _ s cycleCount_8)
  | rst_38 => exact effect_of h (callTo_effect _ s cycleCount_16)
  | rlc_b => exact effect_of h (rotateOperand_effect .rlc (.reg .b) s)
  | rlc_c => exact effect_of h (rotateOperand_effect .rlc (.reg .c) s)
  | rlc_d => exact effect_of h (rotateOperand_effect .rlc (.reg .d) s)
  | rlc_e => exact effect_of h (rotateOperand_effect .rlc (.reg .e) s)
  | rlc_h => exact effect_of h (rotateOperand_effect .rlc (.reg .h) s)
  | rlc_l => exact effect_of h (rotateOperand_effect .rlc (.reg .l) s)
  | rlc_atHL => exact effect_of h (rotateOperand_effect .rlc .atHL s)
  | rlc_a => exact effect_of h (rotateOperand_effect .rlc (.reg .a) s)
  | rrc_b => exact effect_of h (rotateOperand_effect .rrc (.reg .b) s)
  | rrc_c => exact effect_of h (rotateOperand_effect .rrc (.reg .c) s)
  | rrc_d => exact effect_of h (rotateOperand_effect .rrc (.reg .d) s)
  | rrc_e => exact effect_of h (rotateOperand_effect .rrc (.reg .e) s)
  | rrc_h => exact effect_of h (rotateOperand_effect .rrc (.reg .h) s)
  | rrc_l => exact effect_of h (rotateOperand_effect .rrc (.reg .l) s)
  | rrc_atHL => exact effect_of h (rotateOperand_effect .rrc .atHL s)
  | rrc_a => exact effect_of h (rotateOperand_effect .rrc (.reg .a) s)
  | rl_b => exact effect_of h (rotateOperand_effect .rl (.reg .b) s)
  | rl_c => exact effect_of h (rotateOperand_effect .rl (.reg .c) s)
  | rl_d => exact effect_of h (rotateOperand_effect .rl (.reg .d) s)
  | rl_e => exact effect_of h (rotateOperand_effect .rl (.reg .e) s)
  | rl_h => exact effect_of h (rotateOperand_effect .rl (.reg .h) s)
  | rl_l => exact effect_of h (rotateOperand_effect .rl (.reg .l) s)
  | rl_atHL => exact effect_of h (rotateOperand_effect .rl .atHL s)
  | rl_a => exact effect_of h (rotateOperand_effect .rl (.reg .a) s)
  | rr_b => exact effect_of h (rotateOperand_effect .rr (.reg .b) s)
  | rr_c => exact effect_of h (rotateOperand_effect .rr (.reg .c) s)
  | rr_d => exact effect_of h (rotateOperand_effect .rr (.reg .d) s)
  | rr_e => exact effect_of h (rotateOperand_effect .rr (.reg .e) s)
  | rr_h => exact effect_of h (rotateOperand_effect .rr (.reg .h) s)
  | rr_l => exact effect_of h (rotateOperand_effect .rr (.reg .l) s)
  | rr_atHL => exact effect_of h (rotateOperand_effect .rr .atHL s)
  | rr_a => exact effect_of h (rotateOperand_effect .rr (.reg .a) s)
  | sla_b => exact effect_of h (rotateOperand_effect .sla (.reg .b) s)
  | sla_c => exact effect_of h (rotateOperand_effect .sla (.reg .c) s)
  | sla_d => exact effect_of h (rotateOperand_effect .sla (.reg .d) s)
  | sla_e => exact effect_of h (rotateOperand_effect .sla (.reg .e) s)
  | sla_h => exact effect_of h (rotateOperand_effect .sla (.reg .h) s)
  | sla_l => exact effect_of h (rotateOperand_effect .sla (.reg .l) s)
  | sla_atHL => exact effect_of h (rotateOperand_effect .sla .atHL s)
  | sla_a => exact effect_of h (rotateOperand_effect .sla (.reg .a) s)
  | sra_b => exact effect_of h (rotateOperand_effect .sra (.reg .b) s)
  | sra_c => exact effect_of h (rotateOperand_effect .sra (.reg .c) s)
  | sra_d => exact effect_of h (rotateOperand_effect .sra (.reg .d) s)
  | sra_e => exact effect_of h (rotateOperand_effect .sra (.reg .e) s)
  | sra_h => exact effect_of h (rotateOperand_effect .sra (.reg .h) s)
  | sra_l => exact effect_of h (rotateOperand_effect .sra (.reg .l) s)
  | sra_atHL => exact effect_of h (rotateOperand_effect .sra .atHL s)
  | sra_a => exact effect_of h (rotateOperand_effect .sra (.reg .a) s)
  | swap_b => exact effect_of h (rotateOperand_effect .swap (.reg .b) s)
  | swap_c => exact effect_of h (rotateOperand_effect .swap (.reg .c) s)
  | swap_d => exact effect_of h (rotateOperand_effect .swap (.reg .d) s)
  | swap_e => exact effect_of h (rotateOperand_effect .swap (.reg .e) s)
  | swap_h => exact effect_of h (rotateOperand_effect .swap (.reg .h) s)
  | swap_l => exact effect_of h (rotateOperand_effect .swap (.reg .l) s)
  | swap_atHL => exact effect_of h (rotateOperand_effect .swap .atHL s)
  | swap_a => exact effect_of h (rotateOperand_effect .swap (.reg .a) s)
  | srl_b => exact effect_of h (rotateOperand_effect .srl (.reg .b) s)
  | srl_c => exact effect_of h (rotateOperand_effect .srl (.reg .c) s)
  | srl_d => exact effect_of h (rotateOperand_effect .srl (.reg .d) s)
  | srl_e => exact effect_of h (rotateOperand_effect .srl (.reg .e) s)
  | srl_h => exact effect_of h (rotateOperand_effect .srl (.reg .h) s)
  | srl_l => exact effect_of h (rotateOperand_effect .srl (.reg .l) s)
  | srl_atHL => exact effect_of h (rotateOperand_effect .srl .atHL s)
  | srl_a => exact effect_of h (rotateOperand_effect .srl (.reg .a) s)
  | bit_0_b => exact effect_of h (testBit_effect 0 (.reg .b) s)
  | bit_0_c => exact effect_of h (testBit_effect 0 (.reg .c) s)
  | bit_0_d => exact effect_of h (testBit_effect 0 (.reg .d) s)
  | bit_0_e => exact effect_of h (testBit_effect 0 (.reg .e) s)
  | bit_0_h => exact effect_of h (testBit_effect 0 (.reg .h) s)
  | bit_0_l => exact effect_of h (testBit_effect 0 (.reg .l) s)
  | bit_0_atHL => exact effect_of h (testBit_effect 0 .atHL s)
  | bit_0_a => exact effect_of h (testBit_effect 0 (.reg .a) s)
  | bit_1_b => exact effect_of h (testBit_effect 1 (.reg .b) s)
  | bit_1_c => exact effect_of h (testBit_effect 1 (.reg .c) s)
  | bit_1_d => exact effect_of h (testBit_effect 1 (.reg .d) s)
  | bit_1_e => exact effect_of h (testBit_effect 1 (.reg .e) s)
  | bit_1_h => exact effect_of h (testBit_effect 1 (.reg .h) s)
  | bit_1_l => exact effect_of h (testBit_effect 1 (.reg .l) s)
  | bit_1_atHL => exact effect_of h (testBit_effect 1 .atHL s)
  | bit_1_a => exact effect_of h (testBit_effect 1 (.reg .a) s)
  | bit_2_b => exact effect_of h (testBit_effect 2 (.reg .b) s)
  | bit_2_c => exact effect_of h (testBit_effect 2 (.reg .c) s)
  | bit_2_d => exact effect_of h (testBit_effect 2 (.reg .d) s)
  | bit_2_e => exact effect_of h (testBit_effect 2 (.reg .e) s)
  | bit_2_h => exact effect_of h (testBit_effect 2 (.reg .h) s)
  | bit_2_l => exact effect_of h (testBit_effect 2 (.reg .l) s)
  | bit_2_atHL => exact effect_of h (testBit_effect 2 .atHL s)
  | bit_2_a => exact effect_of h (testBit_effect 2 (.reg .a) s)
  | bit_3_b => exact effect_of h (testBit_effect 3 (.reg .b) s)
  | bit_3_c => exact effect_of h (testBit_effect 3 (.reg .c) s)
  | bit_3_d => exact effect_of h (testBit_effect 3 (.reg .d) s)
  | bit_3_e => exact effect_of h (testBit_effect 3 (.reg .e) s)
  | bit_3_h => exact effect_of h (testBit_effect 3 (.reg .h) s)
  | bit_3_l => exact effect_of h (testBit_effect 3 (.reg .l) s)
  | bit_3_atHL => exact effect_of h (testBit_effect 3 .atHL s)
  | bit_3_a => exact effect_of h (testBit_effect 3 (.reg .a) s)
  | bit_4_b => exact effect_of h (testBit_effect 4 (.reg .b) s)
  | bit_4_c => exact effect_of h (testBit_effect 4 (.reg .c) s)
  | bit_4_d => exact effect_of h (testBit_effect 4 (.reg .d) s)
  | bit_4_e => exact effect_of h (testBit_effect 4 (.reg .e) s)
  | bit_4_h => exact effect_of h (testBit_effect 4 (.reg .h) s)
  | bit_4_l => exact effect_of h (testBit_effect 4 (.reg .l) s)
  | bit_4_atHL => exact effect_of h (testBit_effect 4 .atHL s)
  | bit_4_a => exact effect_of h (testBit_effect 4 (.reg .a) s)
  | bit_5_b => exact effect_of h (testBit_effect 5 (.reg .b) s)
  | bit_5_c => exact effect_of h (testBit_effect 5 (.reg .c) s)
  | bit_5_d => exact effect_of h (testBit_effect 5 (.reg .d) s)
  | bit_5_e => exact effect_of h (testBit_effect 5 (.reg .e) s)
  | bit_5_h => exact effect_of h (testBit_effect 5 (.reg .h) s)
  | bit_5_l => exact effect_of h (testBit_effect 5 (.reg .l) s)
  | bit_5_atHL => exact effect_of h (testBit_effect 5 .atHL s)
  | bit_5_a => exact effect_of h (testBit_effect 5 (.reg .a) s)
  | bit_6_b => exact effect_of h (testBit_effect 6 (.reg .b) s)
  | bit_6_c => exact effect_of h (testBit_effect 6 (.reg .c) s)
  | bit_6_d => exact effect_of h (testBit_effect 6 (.reg .d) s)
  | bit_6_e => exact effect_of h (testBit_effect 6 (.reg .e) s)
  | bit_6_h => exact effect_of h (testBit_effect 6 (.reg .h) s)
  | bit_6_l => exact effect_of h (testBit_effect 6 (.reg .l) s)
  | bit_6_atHL => exact effect_of h (testBit_effect 6 .atHL s)
  | bit_6_a => exact effect_of h (testBit_effect 6 (.reg .a) s)
  | bit_7_b => exact effect_of h (testBit_effect 7 (.reg .b) s)
  | bit_7_c => exact effect_of h (testBit_effect 7 (.reg .c) s)
  | bit_7_d => exact effect_of h (testBit_effect 7 (.reg .d) s)
  | bit_7_e => exact effect_of h (testBit_effect 7 (.reg .e) s)
  | bit_7_h => exact effect_of h (testBit_effect 7 (.reg .h) s)
  | bit_7_l => exact effect_of h (testBit_effect 7 (.reg .l) s)
  | bit_7_atHL => exact effect_of h (testBit_effect 7 .atHL s)
  | bit_7_a => exact effect_of h (testBit_effect 7 (.reg .a) s)
  | res_0_b => exact effect_of h (resetBit_effect 0 (.reg .b) s)
  | res_0_c => exact effect_of h (resetBit_effect 0 (.reg .c) s)
  | res_0_d => exact effect_of h (resetBit_effect 0 (.reg .d) s)
  | res_0_e => exact effect_of h (resetBit_effect 0 (.reg .e) s)
  | res_0_h => exact effect_of h (resetBit_effect 0 (.reg .h) s)
  | res_0_l => exact effect_of h (resetBit_effect 0 (.reg .l) s)
  | res_0_atHL => exact effect_of h (resetBit_effect 0 .atHL s)
  | res_0_a => exact effect_of h (resetBit_effect 0 (.reg .a) s)
  | res_1_b => exact effect_of h (resetBit_effect 1 (.reg .b) s)
  | res_1_c => exact effect_of h (resetBit_effect 1 (.reg .c) s)
  | res_1_d => exact effect_of h (resetBit_effect 1 (.reg .d) s)
  | res_1_e => exact effect_of h (resetBit_effect 1 (.reg .e) s)
  | res_1_h => exact effect_of h (resetBit_effect 1 (.reg .h) s)
  | res_1_l => exact effect_of h (resetBit_effect 1 (.reg .l) s)
  | res_1_atHL => exact effect_of h (resetBit_effect 1 .atHL s)
  | res_1_a => exact effect_of h (resetBit_effect 1 (.reg .a) s)
  | res_2_b => exact effect_of h (resetBit_effect 2 (.reg .b) s)
  | res_2_c => exact effect_of h (resetBit_effect 2 (.reg .c) s)
  | res_2_d => exact effect_of h (resetBit_effect 2 (.reg .d) s)
  | res_2_e => exact effect_of h (resetBit_effect 2 (.reg .e) s)
  | res_2_h => exact effect_of h (resetBit_effect 2 (.reg .h) s)
  | res_2_l => exact effect_of h (resetBit_effect 2 (.reg .l) s)
  | res_2_atHL => exact effect_of h (resetBit_effect 2 .atHL s)
  | res_2_a => exact effect_of h (resetBit_effect 2 (.reg .a) s)
  | res_3_b => exact effect_of h (resetBit_effect 3 (.reg .b) s)
  | res_3_c => exact effect_of h (resetBit_effect 3 (.reg .c) s)
  | res_3_d => exact effect_of h (resetBit_effect 3 (.reg .d) s)
  | res_3_e => exact effect_of h (resetBit_effect 3 (.reg .e) s)
  | res_3_h => exact effect_of h (resetBit_effect 3 (.reg .h) s)
  | res_3_l => exact effect_of h (resetBit_effect 3 (.reg .l) s)
  | res_3_atHL => exact effect_of h (resetBit_effect 3 .atHL s)
  | res_3_a => exact effect_of h (resetBit_effect 3 (.reg .a) s)
  | res_4_b => exact effect_of h (resetBit_effect 4 (.reg .b) s)
  | res_4_c => exact effect_of h (resetBit_effect 4 (.reg .c) s)
  | res_4_d => exact effect_of h (resetBit_effect 4 (.reg .d) s)
  | res_4_e => exact effect_of h (resetBit_effect 4 (.reg .e) s)
  | res_4_h => exact effect_of h (resetBit_effect 4 (.reg .h) s)
  | res_4_l => exact effect_of h (resetBit_effect 4 (.reg .l) s)
  | res_4_atHL => exact effect_of h (resetBit_effect 4 .atHL s)
  | res_4_a => exact effect_of h (resetBit_effect 4 (.reg .a) s)
  | res_5_b => exact effect_of h (resetBit_effect 5 (.reg .b) s)
  | res_5_c => exact effect_of h (resetBit_effect 5 (.reg .c) s)
  | res_5_d => exact effect_of h (resetBit_effect 5 (.reg .d) s)
  | res_5_e => exact effect_of h (resetBit_effect 5 (.reg .e) s)
  | res_5_h => exact effect_of h (resetBit_effect 5 (.reg .h) s)
  | res_5_l => exact effect_of h (resetBit_effect 5 (.reg .l) s)
  | res_5_atHL => exact effect_of h (resetBit_effect 5 .atHL s)
  | res_5_a => exact effect_of h (resetBit_effect 5 (.reg .a) s)
  | res_6_b => exact effect_of h (resetBit_effect 6 (.reg .b) s)
  | res_6_c => exact effect_of h (resetBit_effect 6 (.reg .c) s)
  | res_6_d => exact effect_of h (resetBit_effect 6 (.reg .d) s)
  | res_6_e => exact effect_of h (resetBit_effect 6 (.reg .e) s)
  | res_6_h => exact effect_of h (resetBit_effect 6 (.reg .h) s)
  | res_6_l => exact effect_of h (resetBit_effect 6 (.reg .l) s)
  | res_6_atHL => exact effect_of h (resetBit_effect 6 .atHL s)
  | res_6_a => exact effect_of h (resetBit_effect 6 (.reg .a) s)
  | res_7_b => exact effect_of h (resetBit_effect 7 (.reg .b) s)
  | res_7_c => exact effect_of h (resetBit_effect 7 (.reg .c) s)
  | res_7_d => exact effect_of h (resetBit_effect 7 (.reg .d) s)
  | res_7_e => exact effect_of h (resetBit_effect 7 (.reg .e) s)
  | res_7_h => exact effect_of h (resetBit_effect 7 (.reg .h) s)
  | res_7_l => exact effect_of h (resetBit_effect 7 (.reg .l) s)
  | res_7_atHL => exact effect_of h (resetBit_effect 7 .atHL s)
  | res_7_a => exact effect_of h (resetBit_effect 7 (.reg .a) s)
  | set_0_b => exact effect_of h (setBit_effect 0 (.reg .b) s)
  | set_0_c => exact effect_of h (setBit_effect 0 (.reg .c) s)
  | set_0_d => exact effect_of h (setBit_effect 0 (.reg .d) s)
  | set_0_e => exact effect_of h (setBit_effect 0 (.reg .e) s)
  | set_0_h => exact effect_of h (setBit_effect 0 (.reg .h) s)
  | set_0_l => exact effect_of h (setBit_effect 0 (.reg .l) s)
  | set_0_atHL => exact effect_of h (setBit_effect 0 .atHL s)
  | set_0_a => exact effect_of h (setBit_effect 0 (.reg .a) s)
  | set_1_b => exact effect_of h (setBit_effect 1 (.reg .b) s)
  | set_1_c => exact effect_of h (setBit_effect 1 (.reg .c) s)
  | set_1_d => exact effect_of h (setBit_effect 1 (.reg .d) s)
  | set_1_e => exact effect_of h (setBit_effect 1 (.reg .e) s)
  | set_1_h => exact effect_of h (setBit_effect 1 (.reg .h) s)
  | set_1_l => exact effect_of h (setBit_effect 1 (.reg .l) s)
  | set_1_atHL => exact effect_of h (setBit_effect 1 .atHL s)
  | set_1_a => exact effect_of h (setBit_effect 1 (.reg .a) s)
  | set_2_b => exact effect_of h (setBit_effect 2 (.reg .b) s)
  | set_2_c => exact effect_of h (setBit_effect 2 (.reg .c) s)
  | set_2_d => exact effect_of h (setBit_effect 2 (.reg .d) s)
  | set_2_e => exact effect_of h (setBit_effect 2 (.reg .e) s)
  | set_2_h => exact effect_of h (setBit_effect 2 (.reg .h) s)
  | set_2_l => exact effect_of h (setBit_effect 2 (.reg .l) s)
  | set_2_atHL => exact effect_of h (setBit_effect 2 .atHL s)
  | set_2_a => exact effect_of h (setBit_effect 2 (.reg .a) s)
  | set_3_b => exact effect_of h (setBit_effect 3 (.reg .b) s)
  | set_3_c => exact effect_of h (setBit_effect 3 (.reg .c) s)
  | set_3_d => exact effect_of h (setBit_effect 3 (.reg .d) s)
  | set_3_e => exact effect_of h (setBit_effect 3 (.reg .e) s)
  | set_3_h => exact effect_of h (setBit_effect 3 (.reg .h) s)
  | set_3_l => exact effect_of h (setBit_effect 3 (.reg .l) s)
  | set_3_atHL => exact effect_of h (setBit_effect 3 .atHL s)
  | set_3_a => exact effect_of h (setBit_effect 3 (.reg .a) s)
  | set_4_b => exact effect_of h (setBit_effect 4 (.reg .b) s)
  | set_4_c => exact effect_of h (setBit_effect 4 (.reg .c) s)
  | set_4_d => exact effect_of h (setBit_effect 4 (.reg .d) s)
  | set_4_e => exact effect_of h (setBit_effect 4 (.reg .e) s)
  | set_4_h => exact effect_of h (setBit_effect 4 (.reg .h) s)
  | set_4_l => exact effect_of h (setBit_effect 4 (.reg .l) s)
  | set_4_atHL => exact effect_of h (setBit_effect 4 .atHL s)
  | set_4_a => exact effect_of h (setBit_effect 4 (.reg .a) s)
  | set_5_b => exact effect_of h (setBit_effect 5 (.reg .b) s)
  | set_5_c => exact effect_of h (setBit_effect 5 (.reg .c) s)
  | set_5_d => exact effect_of h (setBit_effect 5 (.reg .d) s)
  | set_5_e => exact effect_of h (setBit_effect 5 (.reg .e) s)
  | set_5_h => exact effect_of h (setBit_effect 5 (.reg .h) s)
  | set_5_l => exact effect_of h (setBit_effect 5 (.reg .l) s)
  | set_5_atHL => exact effect_of h (setBit_effect 5 .atHL s)
  | set_5_a => exact effect_of h (setBit_effect 5 (.reg .a) s)
  | set_6_b => exact effect_of h (setBit_effect 6 (.reg .b) s)
  | set_6_c => exact effect_of h (setBit_effect 6 (.reg .c) s)
  | set_6_d => exact effect_of h (setBit_effect 6 (.reg .d) s)
  | set_6_e => exact effect_of h (setBit_effect 6 (.reg .e) s)
  | set_6_h => exact effect_of h (setBit_effect 6 (.reg .h) s)
  | set_6_l => exact effect_of h (setBit_effect 6 (.reg .l) s)
  | set_6_atHL => exact effect_of h (setBit_effect 6 .atHL s)
  | set_6_a => exact effect_of h (setBit_effect 6 (.reg .a) s)
  | set_7_b => exact effect_of h (setBit_effect 7 (.reg .b) s)
  | set_7_c => exact effect_of h (setBit_effect 7 (.reg .c) s)
  | set_7_d => exact effect_of h (setBit_effect 7 (.reg .d) s)
  | set_7_e => exact effect_of h (setBit_effect 7 (.reg .e) s)
  | set_7_h => exact effect_of h (setBit_effect 7 (.reg .h) s)
  | set_7_l => exact effect_of h (setBit_effect 7 (.reg .l) s)
  | set_7_atHL => exact effect_of h (setBit_effect 7 .atHL s)
  | set_7_a => exact effect_of h (setBit_effect 7 (.reg .a) s)

end Sys2Proof.Machine
end

