-- ==== Sys2Proof/Laws/Flags.lean ====
section
/-! SUPPORT. Every flag computation of Machine/Flags.lean in numbers: the result and F, as the claims write them
(`flagByte`, `rotResult`, `rotCarry`). -/

namespace Sys2Proof.Machine

/-- F put together from bits is F put together from numbers (R22, R27). -/
theorem packFlags_eq (z n h c : Bool) : packFlags z n h c = flagByte z n h c := by
  cases z <;> cases n <;> cases h <;> cases c <;> rfl

theorem flagByte_and_F0 (z n h c : Bool) : flagByte z n h c &&& 0xF0 = flagByte z n h c := by
  rw [← packFlags_eq, packFlags_and_F0]

/-- The same, in the form `simp` gives the mask. -/
@[simp] theorem flagByte_and_240 (z n h c : Bool) : flagByte z n h c &&& 240#8 = flagByte z n h c := flagByte_and_F0 z n h c

theorem flags_eq (x : AluResult) : x.flags = flagByte x.z x.n x.h x.c := packFlags_eq _ _ _ _

/-- A byte is 0 exactly when its number is. -/
theorem beq_zero_eq (v : Byte) : (v == 0) = decide (v.toNat = 0) := by
  rw [Bool.eq_iff_iff, beq_iff_eq, decide_eq_true_eq]
  exact ⟨fun h => by rw [h]; rfl, fun h => BitVec.eq_of_toNat_eq h⟩

theorem ofNat8_beq_zero (k : Nat) : (BitVec.ofNat 8 k == 0) = decide (k % 256 = 0) := by
  rw [beq_zero_eq, BitVec.toNat_ofNat]

/-! ## Sums and differences -/

theorem add8_r (a b : Byte) (cin : Bool) : (add8 a b cin).r = BitVec.ofNat 8 (a.toNat + b.toNat + cin.toNat) := rfl

theorem add8_flags (a b : Byte) (cin : Bool) :
    (add8 a b cin).flags =
      flagByte (decide ((a.toNat + b.toNat + cin.toNat) % 256 = 0)) false
        (decide (a.toNat % 16 + b.toNat % 16 + cin.toNat ≥ 16)) (decide (a.toNat + b.toNat + cin.toNat ≥ 256)) := by
  rw [flags_eq, ← ofNat8_beq_zero]
  rfl

theorem sub8_r (a b : Byte) (cin : Bool) :
    (sub8 a b cin).r = BitVec.ofNat 8 (a.toNat + 512 - b.toNat - cin.toNat) := by
  apply BitVec.eq_of_toNat_eq
  have ha := a.isLt
  have hb := b.isLt
  have hc : cin.toNat ≤ 1 := Bool.toNat_le cin
  simp only [sub8, BitVec.toNat_sub, BitVec.toNat_ofNat]
  omega

theorem sub8_flags (a b : Byte) (cin : Bool) :
    (sub8 a b cin).flags =
      flagByte (decide ((a.toNat + 512 - b.toNat - cin.toNat) % 256 = 0)) true
        (decide (a.toNat % 16 < b.toNat % 16 + cin.toNat)) (decide (a.toNat < b.toNat + cin.toNat)) := by
  rw [flags_eq, ← ofNat8_beq_zero, ← sub8_r]
  rfl

/-- Z of a compare says whether the two bytes are equal. -/
theorem sub8_z_eq (a b : Byte) : (sub8 a b false).z = decide (a = b) := by
  have h : (sub8 a b false).z = ((sub8 a b false).r == 0) := rfl
  rw [h, beq_zero_eq, sub8_r, Bool.eq_iff_iff, decide_eq_true_eq, decide_eq_true_eq, BitVec.toNat_ofNat]
  have ha := a.isLt
  have hb := b.isLt
  constructor
  · intro h
    apply BitVec.eq_of_toNat_eq
    simp only [Bool.toNat_false] at h
    omega
  · rintro rfl
    simp only [Bool.toNat_false]
    omega

/-! ## Logic -/

theorem beq_zero_decide (v : Byte) : (v == 0) = decide (v = 0) := by
  rw [Bool.eq_iff_iff, beq_iff_eq, decide_eq_true_eq]

theorem and8_flags (a b : Byte) : (and8 a b).flags = flagByte (decide (a &&& b = 0)) false true false := by
  rw [flags_eq, ← beq_zero_decide]
  rfl

theorem xor8_flags (a b : Byte) : (xor8 a b).flags = flagByte (decide (a ^^^ b = 0)) false false false := by
  rw [flags_eq, ← beq_zero_decide]
  rfl

theorem or8_flags (a b : Byte) : (or8 a b).flags = flagByte (decide (a ||| b = 0)) false false false := by
  rw [flags_eq, ← beq_zero_decide]
  rfl

/-! ## INC and DEC -/

theorem inc8_flags (v : Byte) (carry : Bool) :
    (inc8 v carry).flags = flagByte (decide (v.toNat = 255)) false (decide (v.toNat % 16 = 15)) carry := by
  have hz : (v + 1 == 0) = decide (v.toNat = 255) := by
    rw [beq_zero_eq, BitVec.toNat_add, Bool.eq_iff_iff, decide_eq_true_eq, decide_eq_true_eq]
    have hv := v.isLt
    show (v.toNat + 1) % 256 = 0 ↔ _
    omega
  rw [flags_eq, ← hz]
  rfl

theorem dec8_flags (v : Byte) (carry : Bool) :
    (dec8 v carry).flags = flagByte (decide (v.toNat = 1)) true (decide (v.toNat % 16 = 0)) carry := by
  have hz : (v - 1 == 0) = decide (v.toNat = 1) := by
    rw [beq_zero_eq, BitVec.toNat_sub, Bool.eq_iff_iff, decide_eq_true_eq, decide_eq_true_eq]
    have hv := v.isLt
    show (256 - 1 + v.toNat) % 256 = 0 ↔ _
    omega
  rw [flags_eq, ← hz]
  rfl

/-! ## DAA -/

/-- DAA in numbers on all 256 bytes and all values of N, H and C (R292). -/
def daaAgrees : Bool :=
  (List.range 256).all fun k => [false, true].all fun h => [false, true].all fun c =>
    let a : Byte := BitVec.ofNat 8 k
    let high := c || decide (k > 0x99)
    let low := h || decide (k % 16 > 9)
    let plus := (k + 0x60 * high.toNat + 0x06 * low.toNat) % 256
    let minus := (k + 256 - 0x60 * c.toNat - 0x06 * h.toNat) % 256
    decide (daa8 a false h c = { r := BitVec.ofNat 8 plus, z := decide (plus = 0), n := false, h := false, c := high }) &&
      decide (daa8 a true h c = { r := BitVec.ofNat 8 minus, z := decide (minus = 0), n := true, h := false, c := c })

theorem daaAgrees_holds : daaAgrees = true := by decide +kernel

/-- DAA after an addition and after a subtraction, in numbers. -/
theorem daa8_eq (a : Byte) (h c : Bool) :
    let k := a.toNat
    let high := c || decide (k > 0x99)
    let low := h || decide (k % 16 > 9)
    let plus := (k + 0x60 * high.toNat + 0x06 * low.toNat) % 256
    let minus := (k + 256 - 0x60 * c.toNat - 0x06 * h.toNat) % 256
    daa8 a false h c = { r := BitVec.ofNat 8 plus, z := decide (plus = 0), n := false, h := false, c := high } ∧
      daa8 a true h c = { r := BitVec.ofNat 8 minus, z := decide (minus = 0), n := true, h := false, c := c } := by
  have hall := daaAgrees_holds
  unfold daaAgrees at hall
  rw [List.all_eq_true] at hall
  have h1 := hall a.toNat (List.mem_range.mpr a.isLt)
  rw [List.all_eq_true] at h1
  have h2 := h1 h (by cases h <;> simp)
  rw [List.all_eq_true] at h2
  have h3 := h2 c (by cases c <;> simp)
  have hv : BitVec.ofNat 8 a.toNat = a := by simp
  rw [hv] at h3
  simpa only [Bool.and_eq_true, decide_eq_true_eq] using h3

/-! ## Rotates and shifts -/

/-- All 256 bytes and both carries, one operation. -/
def rotAgrees (op : RotOp) : Bool :=
  (List.range 256).all fun k => [false, true].all fun c =>
    let v : Byte := BitVec.ofNat 8 k
    decide ((rot8 op v c).r = BitVec.ofNat 8 (rotResult op v c)) && decide (rotResult op v c < 256) &&
      decide ((rot8 op v c).c = rotCarry op v)

theorem rotAgrees_all (op : RotOp) : rotAgrees op = true := by
  cases op <;> decide +kernel

/-- A rotate or shift in numbers: its result, that the result is a byte's, and the bit moved out. -/
theorem rot8_eq (op : RotOp) (v : Byte) (c : Bool) :
    (rot8 op v c).r = BitVec.ofNat 8 (rotResult op v c) ∧ rotResult op v c < 256 ∧ (rot8 op v c).c = rotCarry op v := by
  have h := rotAgrees_all op
  unfold rotAgrees at h
  rw [List.all_eq_true] at h
  have h1 := h v.toNat (List.mem_range.mpr v.isLt)
  rw [List.all_eq_true] at h1
  have h2 := h1 c (by cases c <;> simp)
  have hv : BitVec.ofNat 8 v.toNat = v := by simp
  rw [hv] at h2
  simp only [Bool.and_eq_true, decide_eq_true_eq] at h2
  exact ⟨h2.1.1, h2.1.2, h2.2⟩

theorem rot8_flags (op : RotOp) (v : Byte) (c : Bool) :
    (rot8 op v c).flags = flagByte (decide (rotResult op v c = 0)) false false (rotCarry op v) := by
  obtain ⟨hr, hlt, hc⟩ := rot8_eq op v c
  have hz : (rot8 op v c).z = decide (rotResult op v c = 0) := by
    have h : (rot8 op v c).z = ((rot8 op v c).r == 0) := by cases op <;> rfl
    rw [h, hr, ofNat8_beq_zero, Nat.mod_eq_of_lt hlt]
  have hn : (rot8 op v c).n = false := by cases op <;> rfl
  have hh : (rot8 op v c).h = false := by cases op <;> rfl
  rw [flags_eq, hz, hn, hh, hc]

theorem rotA8_flags (op : RotOp) (v : Byte) (c : Bool) :
    (rotA8 op v c).flags = flagByte false false false (rotCarry op v) := by
  have hn : (rot8 op v c).n = false := by cases op <;> rfl
  have hh : (rot8 op v c).h = false := by cases op <;> rfl
  rw [flags_eq]
  show flagByte false (rot8 op v c).n (rot8 op v c).h (rot8 op v c).c = _
  rw [hn, hh, (rot8_eq op v c).2.2]

/-! ## 16-bit sums -/

theorem add16Flags_eq (hl s : Word) (z : Bool) :
    add16Flags hl s z =
      flagByte z false (decide (hl.toNat % 4096 + s.toNat % 4096 ≥ 4096)) (decide (hl.toNat + s.toNat ≥ 65536)) :=
  packFlags_eq _ _ _ _

theorem addSpFlags_eq (sp : Word) (e : Byte) :
    addSpFlags sp e =
      flagByte false false (decide (sp.toNat % 16 + e.toNat % 16 > 15)) (decide (sp.toNat % 256 + e.toNat > 255)) :=
  packFlags_eq _ _ _ _

end Sys2Proof.Machine
end

