-- ==== Sys2Proof/Laws/Step.lean ====
section
/-! SUPPORT. What a CPU step and a tick can do, said once: the three ends of a CPU step, the ends of a tick, and that each part of
a tick keeps the invariant. -/

namespace Sys2Proof.Machine

/-! ## The CPU step -/

/-- The state an instruction's meaning runs in, from the state at the boundary. -/
def atExec (s : State) : State := beforeExec (s.setRun .running)

@[simp] theorem fetchInstr_setRun (s : State) (r : RunState) : fetchInstr (s.setRun r) = fetchInstr s := rfl
@[simp] theorem fetchLength_setRun (s : State) (r : RunState) : fetchLength (s.setRun r) = fetchLength s := rfl

/-- A CPU step that answers a next state was an idle step, a dispatch or an instruction (R410). -/
theorem cpuStep_cases {s t : State} (h : cpuStep s = .next t) :
    ((s.cpu.run = .stopped ∨ (interruptToTake s = none ∧ s.cpu.run = .halted ∧ s.pending = 0)) ∧ t = s.withCycles 4) ∨
    (s.cpu.run ≠ .stopped ∧ ∃ n, interruptToTake s = some n ∧ t = takeInterrupt n s) ∨
    (s.cpu.run ≠ .stopped ∧ interruptToTake s = none ∧ ∃ u, exec (fetchInstr s) (atExec s) = .next u ∧
      t = promoteIme s.cpu.imePending (fetchInstr s) u) := by
  unfold cpuStep at h
  split at h
  · rename_i hr
    injection h with h
    exact .inl ⟨.inl hr, h.symm⟩
  · rename_i hr
    split at h
    · rename_i n hn
      injection h with h
      exact .inr (.inl ⟨hr, n, hn, h.symm⟩)
    · rename_i hn
      split at h
      · rename_i hh
        injection h with h
        exact .inl ⟨.inr ⟨hn, hh.1, hh.2⟩, h.symm⟩
      · refine .inr (.inr ⟨hr, hn, ?_⟩)
        unfold runInstr mapNext at h
        split at h
        · rename_i u hu
          injection h with h
          exact ⟨u, hu, h.symm⟩
        · cases h
        · cases h

/-- A tick that answers a next state: the machine was live, the CPU step answered, and the rest of the tick followed. -/
theorem tick_next {s t : State} (h : tick s = .next t) :
    s.fault = none ∧ s.ended = false ∧ ∃ u, cpuStep s = .next u ∧ t = afterCpuStep u := by
  unfold tick at h
  split at h
  · cases h
  · rename_i hf
    split at h
    · cases h
    · rename_i he
      refine ⟨hf, by simpa using he, ?_⟩
      unfold mapNext at h
      split at h
      · rename_i u hu
        injection h with h
        exact ⟨u, hu, h.symm⟩
      · cases h
      · cases h

/-! ## Which step a state takes -/

/-- A live machine's tick is its CPU step and then the rest of the tick. -/
theorem tick_live {s : State} (h : Live s) : tick s = mapNext afterCpuStep (cpuStep s) := by
  unfold tick
  split
  · rename_i r hr
    exact absurd (h.1.symm.trans hr) nofun
  · rw [if_neg (by simp [h.2])]

theorem cpuStep_stopped {s : State} (h : s.cpu.run = .stopped) : cpuStep s = .next (s.withCycles 4) := by
  unfold cpuStep
  rw [if_pos h]

theorem cpuStep_idle {s : State} (hr : s.cpu.run = .halted) (hn : interruptToTake s = none) (hp : s.pending = 0) :
    cpuStep s = .next (s.withCycles 4) := by
  unfold cpuStep
  rw [if_neg (by simp [hr]), hn]
  exact if_pos ⟨hr, hp⟩

theorem cpuStep_interrupt {s : State} {n : Nat} (hr : s.cpu.run ≠ .stopped) (hn : interruptToTake s = some n) :
    cpuStep s = .next (takeInterrupt n s) := by
  unfold cpuStep
  rw [if_neg hr, hn]

theorem cpuStep_executes {s : State} (h : Executes s) : cpuStep s = runInstr (s.setRun .running) := by
  unfold cpuStep
  rw [if_neg h.2.1, h.2.2.1]
  exact if_neg h.2.2.2

/-! ## Taking an interrupt -/

/-- Taking interrupt n in the state's own fields: IF's bit n is cleared before the two stores, which see no other change. -/
theorem takeInterrupt_eq (n : Nat) (s : State) :
    takeInterrupt n s =
      { memWrite (memWrite { s with ifReg := s.ifReg &&& ~~~((1 : Byte) <<< n) } (s.cpu.sp - 1) (hiByte s.cpu.pc))
          (s.cpu.sp - 2) (loByte s.cpu.pc) with
        cpu := { s.cpu with ime := false, imePending := false, run := .running, sp := s.cpu.sp - 2, pc := vector n }
        cycles := 20 } := by
  have h1 : takeInterrupt n s =
      (((push16 ((({ s with ifReg := s.ifReg &&& ~~~((1 : Byte) <<< n) } : State).setIme false).setImePending false)
        s.cpu.pc).setPC (vector n)).setRun .running).withCycles 20 := rfl
  rw [h1, push16_eq]
  simp only [memWrite_setIme, memWrite_setImePending]
  simp [State.setIme, State.setImePending, State.setPC, State.setSP, State.setRun, State.withCycles]

/-! ## What a meaning keeps -/

theorem ExecEffect.coreInv {s t : State} {l : List Word} (h : ExecEffect s l t) (hi : CoreInv s) : CoreInv t := by
  cases h with
  | registers c n hf hn => exact hi.withCpu c n (hf hi.flags)
  | store a v c n hf hn => exact (memWrite_coreInv a v hi).withCpu c n (hf hi.flags)
  | stores a v a' v' c n hf hn => exact (memWrite_coreInv a' v' (memWrite_coreInv a v hi)).withCpu c n (hf hi.flags)

/-- What a meaning leaves alone outside the CPU's registers and the memory-mapped parts. -/
theorem ExecEffect.keeps {s t : State} {l : List Word} (h : ExecEffect s l t) :
    t.cart = s.cart ∧ t.fault = s.fault ∧ t.inputs = s.inputs ∧ t.frames = s.frames ∧
      t.quitRequested = s.quitRequested ∧ t.ended = s.ended ∧ t.ppu.frameReady = s.ppu.frameReady := by
  cases h with
  | registers c n hf hn => exact ⟨rfl, rfl, rfl, rfl, rfl, rfl, rfl⟩
  | store a v c n hf hn => simp [memWrite_frameReady]
  | stores a v a' v' c n hf hn => simp [memWrite_frameReady]

/-! ## What the parts of a CPU step keep -/

theorem CoreInv.setPC {s : State} (h : CoreInv s) (v : Word) : CoreInv (s.setPC v) := h.withCpu _ s.cycles h.flags
theorem CoreInv.setSP {s : State} (h : CoreInv s) (v : Word) : CoreInv (s.setSP v) := h.withCpu _ s.cycles h.flags
theorem CoreInv.setRun {s : State} (h : CoreInv s) (v : RunState) : CoreInv (s.setRun v) := h.withCpu _ s.cycles h.flags
theorem CoreInv.setIme {s : State} (h : CoreInv s) (v : Bool) : CoreInv (s.setIme v) := h.withCpu _ s.cycles h.flags

theorem CoreInv.setImePending {s : State} (h : CoreInv s) (v : Bool) : CoreInv (s.setImePending v) :=
  h.withCpu _ s.cycles h.flags

theorem CoreInv.withCycles {s : State} (h : CoreInv s) (n : Nat) : CoreInv (s.withCycles n) := h.withCpu _ n h.flags

theorem CoreInv.atExec {s : State} (h : CoreInv s) : CoreInv (atExec s) :=
  ((h.setRun .running).setPC _).setImePending false

theorem CoreInv.promoteIme {s : State} (h : CoreInv s) (b : Bool) (i : Instr) : CoreInv (promoteIme b i s) := by
  unfold Machine.promoteIme
  split
  · exact h.setIme true
  · exact h

theorem CoreInv.setIfReg {s : State} (h : CoreInv s) (v : Byte) : CoreInv { s with ifReg := v } :=
  ⟨⟨h.memories.1, h.memories.2, h.memories.3, h.memories.4, h.memories.5, h.memories.6, h.memories.7⟩, h.flags, h.bankLo,
    h.scan, h.framebuffer⟩

theorem CoreInv.push16 {s : State} (h : CoreInv s) (v : Word) : CoreInv (push16 s v) := by
  rw [push16_eq]
  exact (memWrite_coreInv _ _ (memWrite_coreInv _ _ h)).setSP _

theorem CoreInv.takeInterrupt {s : State} (h : CoreInv s) (n : Nat) : CoreInv (takeInterrupt n s) :=
  (((((((h.setIme false).setImePending false).setIfReg _).push16 _).setPC _).setRun .running).withCycles 20)

/-- A CPU step keeps what holds at every moment of a tick. -/
theorem cpuStep_coreInv {s t : State} (h : cpuStep s = .next t) (hi : CoreInv s) : CoreInv t := by
  rcases cpuStep_cases h with ⟨_, rfl⟩ | ⟨_, n, _, rfl⟩ | ⟨_, _, u, hu, rfl⟩
  · exact hi.withCycles 4
  · exact hi.takeInterrupt n
  · exact ((exec_effect hu).coreInv hi.atExec).promoteIme _ _

/-! ## What the rest of a tick establishes -/

/-- After the devices' part of a tick the whole invariant holds again. -/
theorem afterCpuStep_establishes {s : State} (hi : CoreInv s) : Inv (afterCpuStep s) := by
  obtain ⟨k, v, f, ht, hk⟩ := timerAdvance_shape s.cycles s
  have h1 : CoreInv (timerAdvance s.cycles s) := by
    rw [ht]
    exact ⟨⟨hi.memories.1, hi.memories.2, hi.memories.3, hi.memories.4, hi.memories.5, hi.memories.6, hi.memories.7⟩,
      hi.flags, hi.bankLo, hi.scan, hi.framebuffer⟩
  have h1t : TaccWf (timerAdvance s.cycles s) := by
    rw [ht]
    exact hk
  have hscan := ppuAdvance_scan s.cycles h1.scan
  have hfb := ppuAdvance_framebuffer s.cycles h1.framebuffer
  obtain ⟨m, d, l, co, w, fb, fr, f', hp⟩ := ppuAdvance_change s.cycles (timerAdvance s.cycles s)
  have h2 : CoreInv (ppuAdvance s.cycles (timerAdvance s.cycles s)) := by
    refine ⟨?_, ?_, ?_, hscan, hfb⟩ <;> rw [hp]
    · exact ⟨h1.memories.1, h1.memories.2, h1.memories.3, h1.memories.4, h1.memories.5, h1.memories.6, h1.memories.7⟩
    · exact h1.flags
    · exact h1.bankLo
  have h2t : TaccWf (ppuAdvance s.cycles (timerAdvance s.cycles s)) := by
    rw [hp]
    exact h1t
  show Inv (quitTest (presentFrame (ppuAdvance s.cycles (timerAdvance s.cycles s))))
  generalize ppuAdvance s.cycles (timerAdvance s.cycles s) = u at h2 h2t ⊢
  have hready := presentFrame_frameReady u
  obtain ⟨j, f2, r, fr2, k2, l2, hpr⟩ := presentFrame_shape u
  obtain ⟨e, hq⟩ := quitTest_shape (presentFrame u)
  rw [hq]
  refine ⟨?_, ?_, ?_, ?_, ?_, ?_, hready⟩ <;> rw [hpr]
  · exact ⟨h2.memories.1, h2.memories.2, h2.memories.3, h2.memories.4, h2.memories.5, h2.memories.6, h2.memories.7⟩
  · exact h2.flags
  · exact h2.bankLo
  · exact h2.scan.congr rfl rfl rfl
  · exact h2.framebuffer.congr rfl
  · exact h2t

end Sys2Proof.Machine
end

