-- ==== Sys2Proof/Tests/Slice0.lean ====
section
/-! SUPPORT. The model's own tests. Expected results are the vectors and scenarios of spec/95_test_vectors.md, the words are
those of spec/opcode_table.json and spec/30_encoding.md, and each statement of the certificate that has hypotheses has a
witness that meets them. -/

namespace Sys2Proof.Tests

open Sys2Proof.Machine

set_option maxRecDepth 4000

/-! ## Well-formedness -/

/-- The prefix row is no instruction (spec/46_system.md R385). -/
theorem test_prefix_row_is_ill_formed : (Instr.prefix_cb 0x7C).illFormed = some .prefixIsNoInstruction := by decide

theorem test_the_selected_instruction_is_well_formed : Instr.bit_7_h.WellFormed := by decide

/-! ## Decoding: every row of the table, by the word its encoding gives (n, e, b = 0x9C, nn = 0x1234) -/

/-- The instruction a byte list decodes to with nothing left over. -/
def decodesTo (bytes : List Byte) : Option Instr :=
  match decode bytes with
  | .ok (i, []) => some i
  | _ => none

theorem test_decode_0x : [[0x00], [0x01, 0x34, 0x12], [0x02], [0x03], [0x04], [0x05], [0x06, 0x9C], [0x07], [0x08,
    0x34, 0x12], [0x09], [0x0A], [0x0B], [0x0C], [0x0D], [0x0E, 0x9C], [0x0F]].map decodesTo =
        ([.nop, .ld_bc_nn 0x1234, .ld_atBC_a, .inc_bc, .inc_b, .dec_b, .ld_b_n 0x9C, .rlca, .ld_atNN_sp 0x1234,
    .add_hl_bc, .ld_a_atBC, .dec_bc, .inc_c, .dec_c, .ld_c_n 0x9C, .rrca] : List Instr).map some := by rfl

theorem test_decode_1x : [[0x10, 0x9C], [0x11, 0x34, 0x12], [0x12], [0x13], [0x14], [0x15], [0x16, 0x9C], [0x17],
    [0x18, 0x9C], [0x19], [0x1A], [0x1B], [0x1C], [0x1D], [0x1E, 0x9C], [0x1F]].map decodesTo =
        ([.stop 0x9C, .ld_de_nn 0x1234, .ld_atDE_a, .inc_de, .inc_d, .dec_d, .ld_d_n 0x9C, .rla, .jr_e 0x9C,
    .add_hl_de, .ld_a_atDE, .dec_de, .inc_e, .dec_e, .ld_e_n 0x9C, .rra] : List Instr).map some := by rfl

theorem test_decode_2x : [[0x20, 0x9C], [0x21, 0x34, 0x12], [0x22], [0x23], [0x24], [0x25], [0x26, 0x9C], [0x27],
    [0x28, 0x9C], [0x29], [0x2A], [0x2B], [0x2C], [0x2D], [0x2E, 0x9C], [0x2F]].map decodesTo =
        ([.jr_nz_e 0x9C, .ld_hl_nn 0x1234, .ld_atHLinc_a, .inc_hl, .inc_h, .dec_h, .ld_h_n 0x9C, .daa, .jr_z_e 0x9C,
    .add_hl_hl, .ld_a_atHLinc, .dec_hl, .inc_l, .dec_l, .ld_l_n 0x9C, .cpl] : List Instr).map some := by rfl

theorem test_decode_3x : [[0x30, 0x9C], [0x31, 0x34, 0x12], [0x32], [0x33], [0x34], [0x35], [0x36, 0x9C], [0x37],
    [0x38, 0x9C], [0x39], [0x3A], [0x3B], [0x3C], [0x3D], [0x3E, 0x9C], [0x3F]].map decodesTo =
        ([.jr_nc_e 0x9C, .ld_sp_nn 0x1234, .ld_atHLdec_a, .inc_sp, .inc_atHL, .dec_atHL, .ld_atHL_n 0x9C, .scf,
    .jr_c_e 0x9C, .add_hl_sp, .ld_a_atHLdec, .dec_sp, .inc_a, .dec_a, .ld_a_n 0x9C, .ccf] : List Instr).map some :=
    by rfl

theorem test_decode_4x : [[0x40], [0x41], [0x42], [0x43], [0x44], [0x45], [0x46], [0x47], [0x48], [0x49], [0x4A],
    [0x4B], [0x4C], [0x4D], [0x4E], [0x4F]].map decodesTo =
        ([.ld_b_b, .ld_b_c, .ld_b_d, .ld_b_e, .ld_b_h, .ld_b_l, .ld_b_atHL, .ld_b_a, .ld_c_b, .ld_c_c, .ld_c_d,
    .ld_c_e, .ld_c_h, .ld_c_l, .ld_c_atHL, .ld_c_a] : List Instr).map some := by rfl

theorem test_decode_5x : [[0x50], [0x51], [0x52], [0x53], [0x54], [0x55], [0x56], [0x57], [0x58], [0x59], [0x5A],
    [0x5B], [0x5C], [0x5D], [0x5E], [0x5F]].map decodesTo =
        ([.ld_d_b, .ld_d_c, .ld_d_d, .ld_d_e, .ld_d_h, .ld_d_l, .ld_d_atHL, .ld_d_a, .ld_e_b, .ld_e_c, .ld_e_d,
    .ld_e_e, .ld_e_h, .ld_e_l, .ld_e_atHL, .ld_e_a] : List Instr).map some := by rfl

theorem test_decode_6x : [[0x60], [0x61], [0x62], [0x63], [0x64], [0x65], [0x66], [0x67], [0x68], [0x69], [0x6A],
    [0x6B], [0x6C], [0x6D], [0x6E], [0x6F]].map decodesTo =
        ([.ld_h_b, .ld_h_c, .ld_h_d, .ld_h_e, .ld_h_h, .ld_h_l, .ld_h_atHL, .ld_h_a, .ld_l_b, .ld_l_c, .ld_l_d,
    .ld_l_e, .ld_l_h, .ld_l_l, .ld_l_atHL, .ld_l_a] : List Instr).map some := by rfl

theorem test_decode_7x : [[0x70], [0x71], [0x72], [0x73], [0x74], [0x75], [0x76], [0x77], [0x78], [0x79], [0x7A],
    [0x7B], [0x7C], [0x7D], [0x7E], [0x7F]].map decodesTo =
        ([.ld_atHL_b, .ld_atHL_c, .ld_atHL_d, .ld_atHL_e, .ld_atHL_h, .ld_atHL_l, .halt, .ld_atHL_a, .ld_a_b,
    .ld_a_c, .ld_a_d, .ld_a_e, .ld_a_h, .ld_a_l, .ld_a_atHL, .ld_a_a] : List Instr).map some := by rfl

theorem test_decode_8x : [[0x80], [0x81], [0x82], [0x83], [0x84], [0x85], [0x86], [0x87], [0x88], [0x89], [0x8A],
    [0x8B], [0x8C], [0x8D], [0x8E], [0x8F]].map decodesTo =
        ([.add_a_b, .add_a_c, .add_a_d, .add_a_e, .add_a_h, .add_a_l, .add_a_atHL, .add_a_a, .adc_a_b, .adc_a_c,
    .adc_a_d, .adc_a_e, .adc_a_h, .adc_a_l, .adc_a_atHL, .adc_a_a] : List Instr).map some := by rfl

theorem test_decode_9x : [[0x90], [0x91], [0x92], [0x93], [0x94], [0x95], [0x96], [0x97], [0x98], [0x99], [0x9A],
    [0x9B], [0x9C], [0x9D], [0x9E], [0x9F]].map decodesTo =
        ([.sub_b, .sub_c, .sub_d, .sub_e, .sub_h, .sub_l, .sub_atHL, .sub_a, .sbc_a_b, .sbc_a_c, .sbc_a_d, .sbc_a_e,
    .sbc_a_h, .sbc_a_l, .sbc_a_atHL, .sbc_a_a] : List Instr).map some := by rfl

theorem test_decode_Ax : [[0xA0], [0xA1], [0xA2], [0xA3], [0xA4], [0xA5], [0xA6], [0xA7], [0xA8], [0xA9], [0xAA],
    [0xAB], [0xAC], [0xAD], [0xAE], [0xAF]].map decodesTo =
        ([.and_b, .and_c, .and_d, .and_e, .and_h, .and_l, .and_atHL, .and_a, .xor_b, .xor_c, .xor_d, .xor_e, .xor_h,
    .xor_l, .xor_atHL, .xor_a] : List Instr).map some := by rfl

theorem test_decode_Bx : [[0xB0], [0xB1], [0xB2], [0xB3], [0xB4], [0xB5], [0xB6], [0xB7], [0xB8], [0xB9], [0xBA],
    [0xBB], [0xBC], [0xBD], [0xBE], [0xBF]].map decodesTo =
        ([.or_b, .or_c, .or_d, .or_e, .or_h, .or_l, .or_atHL, .or_a, .cp_b, .cp_c, .cp_d, .cp_e, .cp_h, .cp_l,
    .cp_atHL, .cp_a] : List Instr).map some := by rfl

theorem test_decode_Cx : [[0xC0], [0xC1], [0xC2, 0x34, 0x12], [0xC3, 0x34, 0x12], [0xC4, 0x34, 0x12], [0xC5], [0xC6,
    0x9C], [0xC7], [0xC8], [0xC9], [0xCA, 0x34, 0x12], [0xCC, 0x34, 0x12], [0xCD, 0x34, 0x12], [0xCE, 0x9C],
    [0xCF]].map decodesTo =
        ([.ret_nz, .pop_bc, .jp_nz_nn 0x1234, .jp_nn 0x1234, .call_nz_nn 0x1234, .push_bc, .add_a_n 0x9C, .rst_00,
    .ret_z, .ret, .jp_z_nn 0x1234, .call_z_nn 0x1234, .call_nn 0x1234, .adc_a_n 0x9C, .rst_08] : List Instr).map
    some := by rfl

theorem test_decode_Dx : [[0xD0], [0xD1], [0xD2, 0x34, 0x12], [0xD3], [0xD4, 0x34, 0x12], [0xD5], [0xD6, 0x9C],
    [0xD7], [0xD8], [0xD9], [0xDA, 0x34, 0x12], [0xDB], [0xDC, 0x34, 0x12], [0xDD], [0xDE, 0x9C], [0xDF]].map
    decodesTo =
        ([.ret_nc, .pop_de, .jp_nc_nn 0x1234, .illegal .opD3, .call_nc_nn 0x1234, .push_de, .sub_n 0x9C, .rst_10,
    .ret_c, .reti, .jp_c_nn 0x1234, .illegal .opDB, .call_c_nn 0x1234, .illegal .opDD, .sbc_a_n 0x9C, .rst_18] :
    List Instr).map some := by rfl

theorem test_decode_Ex : [[0xE0, 0x9C], [0xE1], [0xE2], [0xE3], [0xE4], [0xE5], [0xE6, 0x9C], [0xE7], [0xE8, 0x9C],
    [0xE9], [0xEA, 0x34, 0x12], [0xEB], [0xEC], [0xED], [0xEE, 0x9C], [0xEF]].map decodesTo =
        ([.ldh_atN_a 0x9C, .pop_hl, .ld_atC_a, .illegal .opE3, .illegal .opE4, .push_hl, .and_n 0x9C, .rst_20,
    .add_sp_e 0x9C, .jp_hl, .ld_atNN_a 0x1234, .illegal .opEB, .illegal .opEC, .illegal .opED, .xor_n 0x9C, .rst_28]
    : List Instr).map some := by rfl

theorem test_decode_Fx : [[0xF0, 0x9C], [0xF1], [0xF2], [0xF3], [0xF4], [0xF5], [0xF6, 0x9C], [0xF7], [0xF8, 0x9C],
    [0xF9], [0xFA, 0x34, 0x12], [0xFB], [0xFC], [0xFD], [0xFE, 0x9C], [0xFF]].map decodesTo =
        ([.ldh_a_atN 0x9C, .pop_af, .ld_a_atC, .di, .illegal .opF4, .push_af, .or_n 0x9C, .rst_30, .ld_hl_sp_e 0x9C,
    .ld_sp_hl, .ld_a_atNN 0x1234, .ei, .illegal .opFC, .illegal .opFD, .cp_n 0x9C, .rst_38] : List Instr).map some
    := by rfl

theorem test_decode_cb_0x : [0x00, 0x01, 0x02, 0x03, 0x04, 0x05, 0x06, 0x07, 0x08, 0x09, 0x0A, 0x0B, 0x0C, 0x0D,
    0x0E, 0x0F].map (fun op2 => decodesTo [0xCB, op2]) =
        ([.rlc_b, .rlc_c, .rlc_d, .rlc_e, .rlc_h, .rlc_l, .rlc_atHL, .rlc_a, .rrc_b, .rrc_c, .rrc_d, .rrc_e, .rrc_h,
    .rrc_l, .rrc_atHL, .rrc_a] : List Instr).map some := by rfl

theorem test_decode_cb_1x : [0x10, 0x11, 0x12, 0x13, 0x14, 0x15, 0x16, 0x17, 0x18, 0x19, 0x1A, 0x1B, 0x1C, 0x1D,
    0x1E, 0x1F].map (fun op2 => decodesTo [0xCB, op2]) =
        ([.rl_b, .rl_c, .rl_d, .rl_e, .rl_h, .rl_l, .rl_atHL, .rl_a, .rr_b, .rr_c, .rr_d, .rr_e, .rr_h, .rr_l,
    .rr_atHL, .rr_a] : List Instr).map some := by rfl

theorem test_decode_cb_2x : [0x20, 0x21, 0x22, 0x23, 0x24, 0x25, 0x26, 0x27, 0x28, 0x29, 0x2A, 0x2B, 0x2C, 0x2D,
    0x2E, 0x2F].map (fun op2 => decodesTo [0xCB, op2]) =
        ([.sla_b, .sla_c, .sla_d, .sla_e, .sla_h, .sla_l, .sla_atHL, .sla_a, .sra_b, .sra_c, .sra_d, .sra_e, .sra_h,
    .sra_l, .sra_atHL, .sra_a] : List Instr).map some := by rfl

theorem test_decode_cb_3x : [0x30, 0x31, 0x32, 0x33, 0x34, 0x35, 0x36, 0x37, 0x38, 0x39, 0x3A, 0x3B, 0x3C, 0x3D,
    0x3E, 0x3F].map (fun op2 => decodesTo [0xCB, op2]) =
        ([.swap_b, .swap_c, .swap_d, .swap_e, .swap_h, .swap_l, .swap_atHL, .swap_a, .srl_b, .srl_c, .srl_d, .srl_e,
    .srl_h, .srl_l, .srl_atHL, .srl_a] : List Instr).map some := by rfl

theorem test_decode_cb_4x : [0x40, 0x41, 0x42, 0x43, 0x44, 0x45, 0x46, 0x47, 0x48, 0x49, 0x4A, 0x4B, 0x4C, 0x4D,
    0x4E, 0x4F].map (fun op2 => decodesTo [0xCB, op2]) =
        ([.bit_0_b, .bit_0_c, .bit_0_d, .bit_0_e, .bit_0_h, .bit_0_l, .bit_0_atHL, .bit_0_a, .bit_1_b, .bit_1_c,
    .bit_1_d, .bit_1_e, .bit_1_h, .bit_1_l, .bit_1_atHL, .bit_1_a] : List Instr).map some := by rfl

theorem test_decode_cb_5x : [0x50, 0x51, 0x52, 0x53, 0x54, 0x55, 0x56, 0x57, 0x58, 0x59, 0x5A, 0x5B, 0x5C, 0x5D,
    0x5E, 0x5F].map (fun op2 => decodesTo [0xCB, op2]) =
        ([.bit_2_b, .bit_2_c, .bit_2_d, .bit_2_e, .bit_2_h, .bit_2_l, .bit_2_atHL, .bit_2_a, .bit_3_b, .bit_3_c,
    .bit_3_d, .bit_3_e, .bit_3_h, .bit_3_l, .bit_3_atHL, .bit_3_a] : List Instr).map some := by rfl

theorem test_decode_cb_6x : [0x60, 0x61, 0x62, 0x63, 0x64, 0x65, 0x66, 0x67, 0x68, 0x69, 0x6A, 0x6B, 0x6C, 0x6D,
    0x6E, 0x6F].map (fun op2 => decodesTo [0xCB, op2]) =
        ([.bit_4_b, .bit_4_c, .bit_4_d, .bit_4_e, .bit_4_h, .bit_4_l, .bit_4_atHL, .bit_4_a, .bit_5_b, .bit_5_c,
    .bit_5_d, .bit_5_e, .bit_5_h, .bit_5_l, .bit_5_atHL, .bit_5_a] : List Instr).map some := by rfl

theorem test_decode_cb_7x : [0x70, 0x71, 0x72, 0x73, 0x74, 0x75, 0x76, 0x77, 0x78, 0x79, 0x7A, 0x7B, 0x7C, 0x7D,
    0x7E, 0x7F].map (fun op2 => decodesTo [0xCB, op2]) =
        ([.bit_6_b, .bit_6_c, .bit_6_d, .bit_6_e, .bit_6_h, .bit_6_l, .bit_6_atHL, .bit_6_a, .bit_7_b, .bit_7_c,
    .bit_7_d, .bit_7_e, .bit_7_h, .bit_7_l, .bit_7_atHL, .bit_7_a] : List Instr).map some := by rfl

theorem test_decode_cb_8x : [0x80, 0x81, 0x82, 0x83, 0x84, 0x85, 0x86, 0x87, 0x88, 0x89, 0x8A, 0x8B, 0x8C, 0x8D,
    0x8E, 0x8F].map (fun op2 => decodesTo [0xCB, op2]) =
        ([.res_0_b, .res_0_c, .res_0_d, .res_0_e, .res_0_h, .res_0_l, .res_0_atHL, .res_0_a, .res_1_b, .res_1_c,
    .res_1_d, .res_1_e, .res_1_h, .res_1_l, .res_1_atHL, .res_1_a] : List Instr).map some := by rfl

theorem test_decode_cb_9x : [0x90, 0x91, 0x92, 0x93, 0x94, 0x95, 0x96, 0x97, 0x98, 0x99, 0x9A, 0x9B, 0x9C, 0x9D,
    0x9E, 0x9F].map (fun op2 => decodesTo [0xCB, op2]) =
        ([.res_2_b, .res_2_c, .res_2_d, .res_2_e, .res_2_h, .res_2_l, .res_2_atHL, .res_2_a, .res_3_b, .res_3_c,
    .res_3_d, .res_3_e, .res_3_h, .res_3_l, .res_3_atHL, .res_3_a] : List Instr).map some := by rfl

theorem test_decode_cb_Ax : [0xA0, 0xA1, 0xA2, 0xA3, 0xA4, 0xA5, 0xA6, 0xA7, 0xA8, 0xA9, 0xAA, 0xAB, 0xAC, 0xAD,
    0xAE, 0xAF].map (fun op2 => decodesTo [0xCB, op2]) =
        ([.res_4_b, .res_4_c, .res_4_d, .res_4_e, .res_4_h, .res_4_l, .res_4_atHL, .res_4_a, .res_5_b, .res_5_c,
    .res_5_d, .res_5_e, .res_5_h, .res_5_l, .res_5_atHL, .res_5_a] : List Instr).map some := by rfl

theorem test_decode_cb_Bx : [0xB0, 0xB1, 0xB2, 0xB3, 0xB4, 0xB5, 0xB6, 0xB7, 0xB8, 0xB9, 0xBA, 0xBB, 0xBC, 0xBD,
    0xBE, 0xBF].map (fun op2 => decodesTo [0xCB, op2]) =
        ([.res_6_b, .res_6_c, .res_6_d, .res_6_e, .res_6_h, .res_6_l, .res_6_atHL, .res_6_a, .res_7_b, .res_7_c,
    .res_7_d, .res_7_e, .res_7_h, .res_7_l, .res_7_atHL, .res_7_a] : List Instr).map some := by rfl

theorem test_decode_cb_Cx : [0xC0, 0xC1, 0xC2, 0xC3, 0xC4, 0xC5, 0xC6, 0xC7, 0xC8, 0xC9, 0xCA, 0xCB, 0xCC, 0xCD,
    0xCE, 0xCF].map (fun op2 => decodesTo [0xCB, op2]) =
        ([.set_0_b, .set_0_c, .set_0_d, .set_0_e, .set_0_h, .set_0_l, .set_0_atHL, .set_0_a, .set_1_b, .set_1_c,
    .set_1_d, .set_1_e, .set_1_h, .set_1_l, .set_1_atHL, .set_1_a] : List Instr).map some := by rfl

theorem test_decode_cb_Dx : [0xD0, 0xD1, 0xD2, 0xD3, 0xD4, 0xD5, 0xD6, 0xD7, 0xD8, 0xD9, 0xDA, 0xDB, 0xDC, 0xDD,
    0xDE, 0xDF].map (fun op2 => decodesTo [0xCB, op2]) =
        ([.set_2_b, .set_2_c, .set_2_d, .set_2_e, .set_2_h, .set_2_l, .set_2_atHL, .set_2_a, .set_3_b, .set_3_c,
    .set_3_d, .set_3_e, .set_3_h, .set_3_l, .set_3_atHL, .set_3_a] : List Instr).map some := by rfl

theorem test_decode_cb_Ex : [0xE0, 0xE1, 0xE2, 0xE3, 0xE4, 0xE5, 0xE6, 0xE7, 0xE8, 0xE9, 0xEA, 0xEB, 0xEC, 0xED,
    0xEE, 0xEF].map (fun op2 => decodesTo [0xCB, op2]) =
        ([.set_4_b, .set_4_c, .set_4_d, .set_4_e, .set_4_h, .set_4_l, .set_4_atHL, .set_4_a, .set_5_b, .set_5_c,
    .set_5_d, .set_5_e, .set_5_h, .set_5_l, .set_5_atHL, .set_5_a] : List Instr).map some := by rfl

theorem test_decode_cb_Fx : [0xF0, 0xF1, 0xF2, 0xF3, 0xF4, 0xF5, 0xF6, 0xF7, 0xF8, 0xF9, 0xFA, 0xFB, 0xFC, 0xFD,
    0xFE, 0xFF].map (fun op2 => decodesTo [0xCB, op2]) =
        ([.set_6_b, .set_6_c, .set_6_d, .set_6_e, .set_6_h, .set_6_l, .set_6_atHL, .set_6_a, .set_7_b, .set_7_c,
    .set_7_d, .set_7_e, .set_7_h, .set_7_l, .set_7_atHL, .set_7_a] : List Instr).map some := by rfl

/-- Reading a truncated instruction is refused by name. -/
theorem test_decode_truncated : decode [0xC3, 0x50] = .error (.truncated 0xC3) := by rfl

/-- The prefix comes first in a two-byte word: 0xCB in the low byte or in the high byte of the table's number. -/
theorem test_decode_table_word : decodeTableWord 16 0xCB7C = some .bit_7_h ∧ decodeTableWord 8 0x01 = some (.ld_bc_nn 0) := by
  decide

/-! ## One step: vectors of spec/95_test_vectors.md §2 -/

/-- What a test looks at after one step of an instruction placed at PC: the CPU, the cycle count, and one byte of memory. -/
def seen (s : State) (bytes : Byte × Byte × Byte) (a : Word) : Option (Cpu × Nat × Byte) :=
  match step (placeInstr s bytes) with
  | .next t => some (t.cpu, t.cycles, memRead t a)
  | _ => none

/-- Reset, with some CPU registers. -/
def withCpu (f : Cpu → Cpu) : State := { State.reset with cpu := f State.reset.cpu }

/-- A byte stored before the step. -/
def withByte (s : State) (a : Word) (v : Byte) : State := memWrite s a v

/-- `65`, LD H,L; start: reset. -/
theorem test_ld_h_l : seen State.reset (0x65, 0x00, 0x00) 0xC800 =
    some ({ State.reset.cpu with a := 0x01, f := 0xB0, h := 0x4D, pc := 0x0101 },
      4, 0x00) := by decide

/-- `16 FF`, LD D,0xFF; start: reset. -/
theorem test_ld_d_n : seen State.reset (0x16, 0xFF, 0x00) 0xC800 =
    some ({ State.reset.cpu with a := 0x01, f := 0xB0, d := 0xFF, pc := 0x0102 },
      8, 0x00) := by decide

/-- `7E`, LD A,(HL); start: HL=C000, [C000]=5A. -/
theorem test_ld_a_atHL : seen (withByte (withCpu fun c => { c with h := 0xC0, l := 0x00 }) 0xC000 0x5A) (0x7E, 0x00, 0x00) 0xC800 =
    some ({ State.reset.cpu with a := 0x5A, f := 0xB0, h := 0xC0, l := 0x00, pc := 0x0101 },
      8, 0x00) := by decide

/-- `74`, LD (HL),H; start: HL=C0FE. -/
theorem test_ld_atHL_h : seen (withCpu fun c => { c with h := 0xC0, l := 0xFE }) (0x74, 0x00, 0x00) 0xC0FE =
    some ({ State.reset.cpu with a := 0x01, f := 0xB0, h := 0xC0, l := 0xFE, pc := 0x0101 },
      8, 0xC0) := by decide

/-- `36 99`, LD (HL),0x99; start: HL=E000. -/
theorem test_ld_atHL_n : seen (withCpu fun c => { c with h := 0xE0, l := 0x00 }) (0x36, 0x99, 0x00) 0xC000 =
    some ({ State.reset.cpu with a := 0x01, f := 0xB0, h := 0xE0, l := 0x00, pc := 0x0102 },
      12, 0x99) := by decide

/-- `12`, LD (DE),A; start: DE=FEA0, A=55. -/
theorem test_ld_atDE_a : seen (withCpu fun c => { c with d := 0xFE, e := 0xA0, a := 0x55 }) (0x12, 0x00, 0x00) 0xFEA0 =
    some ({ State.reset.cpu with a := 0x55, f := 0xB0, d := 0xFE, e := 0xA0, pc := 0x0101 },
      8, 0xFF) := by decide

/-- `FA FF FE`, LD A,(0xFEFF); start: reset. -/
theorem test_ld_a_atNN : seen State.reset (0xFA, 0xFF, 0xFE) 0xC800 =
    some ({ State.reset.cpu with a := 0xFF, f := 0xB0, pc := 0x0103 },
      16, 0x00) := by decide

/-- `EA FF FF`, LD (0xFFFF),A; start: A=15. -/
theorem test_ld_atNN_a : seen (withCpu fun c => { c with a := 0x15 }) (0xEA, 0xFF, 0xFF) 0xFFFF =
    some ({ State.reset.cpu with a := 0x15, f := 0xB0, pc := 0x0103 },
      16, 0x15) := by decide

/-- `F0 41`, LDH A,(0x41); start: reset. -/
theorem test_ldh_a_atN : seen State.reset (0xF0, 0x41, 0x00) 0xC800 =
    some ({ State.reset.cpu with a := 0x06, f := 0xB0, pc := 0x0102 },
      12, 0x00) := by decide

/-- `E2`, LD (C),A; start: C=47, A=1B. -/
theorem test_ld_atC_a : seen (withCpu fun c => { c with c := 0x47, a := 0x1B }) (0xE2, 0x00, 0x00) 0xFF47 =
    some ({ State.reset.cpu with a := 0x1B, f := 0xB0, c := 0x47, pc := 0x0101 },
      8, 0x1B) := by decide

/-- `22`, LD (HL+),A; start: HL=FFFF, A=1F. -/
theorem test_ld_atHLinc_a : seen (withCpu fun c => { c with h := 0xFF, l := 0xFF, a := 0x1F }) (0x22, 0x00, 0x00) 0xFFFF =
    some ({ State.reset.cpu with a := 0x1F, f := 0xB0, h := 0x00, l := 0x00, pc := 0x0101 },
      8, 0x1F) := by decide

/-- `3A`, LD A,(HL-); start: HL=0000. -/
theorem test_ld_a_atHLdec : seen (withCpu fun c => { c with h := 0x00, l := 0x00 }) (0x3A, 0x00, 0x00) 0xC800 =
    some ({ State.reset.cpu with a := 0x00, f := 0xB0, h := 0xFF, l := 0xFF, pc := 0x0101 },
      8, 0x00) := by decide

/-- `01 EF BE`, LD BC,0xBEEF; start: reset. -/
theorem test_ld_bc_nn : seen State.reset (0x01, 0xEF, 0xBE) 0xC800 =
    some ({ State.reset.cpu with a := 0x01, f := 0xB0, b := 0xBE, c := 0xEF, pc := 0x0103 },
      12, 0x00) := by decide

/-- `08 FF FF`, LD (0xFFFF),SP; start: SP=12E5. -/
theorem test_ld_atNN_sp : seen (withCpu fun c => { c with sp := 0x12E5 }) (0x08, 0xFF, 0xFF) 0xFFFF =
    some ({ State.reset.cpu with a := 0x01, f := 0xB0, sp := 0x12E5, pc := 0x0103 },
      20, 0xE5) := by decide

/-- `F9`, LD SP,HL; start: HL=C123. -/
theorem test_ld_sp_hl : seen (withCpu fun c => { c with h := 0xC1, l := 0x23 }) (0xF9, 0x00, 0x00) 0xC800 =
    some ({ State.reset.cpu with a := 0x01, f := 0xB0, h := 0xC1, l := 0x23, sp := 0xC123, pc := 0x0101 },
      8, 0x00) := by decide

/-- `F8 FF`, LD HL,SP-1; start: SP=0001. -/
theorem test_ld_hl_sp_e : seen (withCpu fun c => { c with sp := 0x0001 }) (0xF8, 0xFF, 0x00) 0xC800 =
    some ({ State.reset.cpu with a := 0x01, f := 0x30, h := 0x00, l := 0x00, sp := 0x0001, pc := 0x0102 },
      12, 0x00) := by decide

/-- `C5`, PUSH BC; start: BC=A1B2, SP=C002. -/
theorem test_push_bc : seen (withCpu fun c => { c with b := 0xA1, c := 0xB2, sp := 0xC002 }) (0xC5, 0x00, 0x00) 0xC000 =
    some ({ State.reset.cpu with a := 0x01, f := 0xB0, b := 0xA1, c := 0xB2, sp := 0xC000, pc := 0x0101 },
      16, 0xB2) := by decide

/-- `D5`, PUSH DE; start: DE=1122, SP=8001. -/
theorem test_push_de : seen (withCpu fun c => { c with d := 0x11, e := 0x22, sp := 0x8001 }) (0xD5, 0x00, 0x00) 0x8000 =
    some ({ State.reset.cpu with a := 0x01, f := 0xB0, d := 0x11, e := 0x22, sp := 0x7FFF, pc := 0x0101 },
      16, 0x11) := by decide

/-- `F1`, POP AF; start: SP=C000, [C000]=FF, [C001]=00. -/
theorem test_pop_af : seen (withByte (withByte (withCpu fun c => { c with sp := 0xC000 }) 0xC000 0xFF) 0xC001 0x00) (0xF1, 0x00, 0x00) 0xC800 =
    some ({ State.reset.cpu with a := 0x00, f := 0xF0, sp := 0xC002, pc := 0x0101 },
      12, 0x00) := by decide

/-- `E1`, POP HL; start: SP=FFFF, IE=1F. -/
theorem test_pop_hl : seen (withByte (withCpu fun c => { c with sp := 0xFFFF }) 0xFFFF 0x1F) (0xE1, 0x00, 0x00) 0xC800 =
    some ({ State.reset.cpu with a := 0x01, f := 0xB0, h := 0x00, l := 0x1F, sp := 0x0001, pc := 0x0101 },
      12, 0x00) := by decide

/-- `80`, ADD A,B; start: A=3A, B=C6. -/
theorem test_add_a_b : seen (withCpu fun c => { c with a := 0x3A, b := 0xC6 }) (0x80, 0x00, 0x00) 0xC800 =
    some ({ State.reset.cpu with a := 0x00, f := 0xB0, b := 0xC6, pc := 0x0101 },
      4, 0x00) := by decide

/-- `CE FF`, ADC A,0xFF; start: A=01, F=10. -/
theorem test_adc_a_n : seen (withCpu fun c => { c with a := 0x01, f := 0x10 }) (0xCE, 0xFF, 0x00) 0xC800 =
    some ({ State.reset.cpu with a := 0x01, f := 0x30, pc := 0x0102 },
      8, 0x00) := by decide

/-- `D6 40`, SUB 0x40; start: A=3E. -/
theorem test_sub_n : seen (withCpu fun c => { c with a := 0x3E }) (0xD6, 0x40, 0x00) 0xC800 =
    some ({ State.reset.cpu with a := 0xFE, f := 0x50, pc := 0x0102 },
      8, 0x00) := by decide

/-- `9F`, SBC A,A; start: A=42, F=10. -/
theorem test_sbc_a_a : seen (withCpu fun c => { c with a := 0x42, f := 0x10 }) (0x9F, 0x00, 0x00) 0xC800 =
    some ({ State.reset.cpu with a := 0xFF, f := 0x70, pc := 0x0101 },
      4, 0x00) := by decide

/-- `E6 00`, AND 0x00; start: A=FF. -/
theorem test_and_n : seen (withCpu fun c => { c with a := 0xFF }) (0xE6, 0x00, 0x00) 0xC800 =
    some ({ State.reset.cpu with a := 0x00, f := 0xA0, pc := 0x0102 },
      8, 0x00) := by decide

/-- `AF`, XOR A; start: A=5C, F=F0. -/
theorem test_xor_a : seen (withCpu fun c => { c with a := 0x5C, f := 0xF0 }) (0xAF, 0x00, 0x00) 0xC800 =
    some ({ State.reset.cpu with a := 0x00, f := 0x80, pc := 0x0101 },
      4, 0x00) := by decide

/-- `B0`, OR B; start: A=00, B=00, F=F0. -/
theorem test_or_b : seen (withCpu fun c => { c with a := 0x00, b := 0x00, f := 0xF0 }) (0xB0, 0x00, 0x00) 0xC800 =
    some ({ State.reset.cpu with a := 0x00, f := 0x80, b := 0x00, pc := 0x0101 },
      4, 0x00) := by decide

/-- `B8`, CP B; start: A=3C, B=2F. -/
theorem test_cp_b : seen (withCpu fun c => { c with a := 0x3C, b := 0x2F }) (0xB8, 0x00, 0x00) 0xC800 =
    some ({ State.reset.cpu with a := 0x3C, f := 0x60, b := 0x2F, pc := 0x0101 },
      4, 0x00) := by decide

/-- `BE`, CP (HL); start: A=00, HL=C000, [C000]=01. -/
theorem test_cp_atHL : seen (withByte (withCpu fun c => { c with a := 0x00, h := 0xC0, l := 0x00 }) 0xC000 0x01) (0xBE, 0x00, 0x00) 0xC800 =
    some ({ State.reset.cpu with a := 0x00, f := 0x70, h := 0xC0, l := 0x00, pc := 0x0101 },
      8, 0x00) := by decide

/-- `2C`, INC L; start: L=7F, F=F0. -/
theorem test_inc_l : seen (withCpu fun c => { c with l := 0x7F, f := 0xF0 }) (0x2C, 0x00, 0x00) 0xC800 =
    some ({ State.reset.cpu with a := 0x01, f := 0x30, l := 0x80, pc := 0x0101 },
      4, 0x00) := by decide

/-- `0D`, DEC C; start: C=10, F=10. -/
theorem test_dec_c : seen (withCpu fun c => { c with c := 0x10, f := 0x10 }) (0x0D, 0x00, 0x00) 0xC800 =
    some ({ State.reset.cpu with a := 0x01, f := 0x70, c := 0x0F, pc := 0x0101 },
      4, 0x00) := by decide

/-- `34`, INC (HL); start: HL=C000, [C000]=FF, F=10. -/
theorem test_inc_atHL : seen (withByte (withCpu fun c => { c with h := 0xC0, l := 0x00, f := 0x10 }) 0xC000 0xFF) (0x34, 0x00, 0x00) 0xC000 =
    some ({ State.reset.cpu with a := 0x01, f := 0xB0, h := 0xC0, l := 0x00, pc := 0x0101 },
      12, 0x00) := by decide

/-- `35`, DEC (HL); start: HL=C000, [C000]=00, F=00. -/
theorem test_dec_atHL : seen (withByte (withCpu fun c => { c with h := 0xC0, l := 0x00, f := 0x00 }) 0xC000 0x00) (0x35, 0x00, 0x00) 0xC000 =
    some ({ State.reset.cpu with a := 0x01, f := 0x60, h := 0xC0, l := 0x00, pc := 0x0101 },
      12, 0xFF) := by decide

/-- `2F`, CPL; start: A=35, F=90. -/
theorem test_cpl : seen (withCpu fun c => { c with a := 0x35, f := 0x90 }) (0x2F, 0x00, 0x00) 0xC800 =
    some ({ State.reset.cpu with a := 0xCA, f := 0xF0, pc := 0x0101 },
      4, 0x00) := by decide

/-- `37`, SCF; start: F=E0. -/
theorem test_scf : seen (withCpu fun c => { c with f := 0xE0 }) (0x37, 0x00, 0x00) 0xC800 =
    some ({ State.reset.cpu with a := 0x01, f := 0x90, pc := 0x0101 },
      4, 0x00) := by decide

/-- `3F`, CCF; start: F=F0. -/
theorem test_ccf : seen (withCpu fun c => { c with f := 0xF0 }) (0x3F, 0x00, 0x00) 0xC800 =
    some ({ State.reset.cpu with a := 0x01, f := 0x80, pc := 0x0101 },
      4, 0x00) := by decide

/-- `27`, DAA; start: A=9A, F=00. -/
theorem test_daa : seen (withCpu fun c => { c with a := 0x9A, f := 0x00 }) (0x27, 0x00, 0x00) 0xC800 =
    some ({ State.reset.cpu with a := 0x00, f := 0x90, pc := 0x0101 },
      4, 0x00) := by decide

/-- `27`, DAA; start: A=4B, F=60. -/
theorem test_daa_2 : seen (withCpu fun c => { c with a := 0x4B, f := 0x60 }) (0x27, 0x00, 0x00) 0xC800 =
    some ({ State.reset.cpu with a := 0x45, f := 0x40, pc := 0x0101 },
      4, 0x00) := by decide

/-- `09`, ADD HL,BC; start: HL=8A23, BC=0605, F=80. -/
theorem test_add_hl_bc : seen (withCpu fun c => { c with h := 0x8A, l := 0x23, b := 0x06, c := 0x05, f := 0x80 }) (0x09, 0x00, 0x00) 0xC800 =
    some ({ State.reset.cpu with a := 0x01, f := 0xA0, b := 0x06, c := 0x05, h := 0x90, l := 0x28, pc := 0x0101 },
      8, 0x00) := by decide

/-- `39`, ADD HL,SP; start: HL=0001, SP=FFFF, F=C0. -/
theorem test_add_hl_sp : seen (withCpu fun c => { c with h := 0x00, l := 0x01, sp := 0xFFFF, f := 0xC0 }) (0x39, 0x00, 0x00) 0xC800 =
    some ({ State.reset.cpu with a := 0x01, f := 0xB0, h := 0x00, l := 0x00, sp := 0xFFFF, pc := 0x0101 },
      8, 0x00) := by decide

/-- `1B`, DEC DE; start: DE=0000, F=F0. -/
theorem test_dec_de : seen (withCpu fun c => { c with d := 0x00, e := 0x00, f := 0xF0 }) (0x1B, 0x00, 0x00) 0xC800 =
    some ({ State.reset.cpu with a := 0x01, f := 0xF0, d := 0xFF, e := 0xFF, pc := 0x0101 },
      8, 0x00) := by decide

/-- `33`, INC SP; start: SP=FFFF. -/
theorem test_inc_sp : seen (withCpu fun c => { c with sp := 0xFFFF }) (0x33, 0x00, 0x00) 0xC800 =
    some ({ State.reset.cpu with a := 0x01, f := 0xB0, sp := 0x0000, pc := 0x0101 },
      8, 0x00) := by decide

/-- `E8 FF`, ADD SP,-1; start: SP=0000. -/
theorem test_add_sp_e : seen (withCpu fun c => { c with sp := 0x0000 }) (0xE8, 0xFF, 0x00) 0xC800 =
    some ({ State.reset.cpu with a := 0x01, f := 0x00, sp := 0xFFFF, pc := 0x0102 },
      16, 0x00) := by decide

/-- `07`, RLCA; start: A=85, F=F0. -/
theorem test_rlca : seen (withCpu fun c => { c with a := 0x85, f := 0xF0 }) (0x07, 0x00, 0x00) 0xC800 =
    some ({ State.reset.cpu with a := 0x0B, f := 0x10, pc := 0x0101 },
      4, 0x00) := by decide

/-- `0F`, RRCA; start: A=01, F=80. -/
theorem test_rrca : seen (withCpu fun c => { c with a := 0x01, f := 0x80 }) (0x0F, 0x00, 0x00) 0xC800 =
    some ({ State.reset.cpu with a := 0x80, f := 0x10, pc := 0x0101 },
      4, 0x00) := by decide

/-- `17`, RLA; start: A=00, F=10. -/
theorem test_rla : seen (withCpu fun c => { c with a := 0x00, f := 0x10 }) (0x17, 0x00, 0x00) 0xC800 =
    some ({ State.reset.cpu with a := 0x01, f := 0x00, pc := 0x0101 },
      4, 0x00) := by decide

/-- `1F`, RRA; start: A=01, F=00. -/
theorem test_rra : seen (withCpu fun c => { c with a := 0x01, f := 0x00 }) (0x1F, 0x00, 0x00) 0xC800 =
    some ({ State.reset.cpu with a := 0x00, f := 0x10, pc := 0x0101 },
      4, 0x00) := by decide

/-- `CB 0A`, RRC D; start: D=01. -/
theorem test_rrc_d : seen (withCpu fun c => { c with d := 0x01 }) (0xCB, 0x0A, 0x00) 0xC800 =
    some ({ State.reset.cpu with a := 0x01, f := 0x10, d := 0x80, pc := 0x0102 },
      8, 0x00) := by decide

/-- `CB 13`, RL E; start: E=80, F=00. -/
theorem test_rl_e : seen (withCpu fun c => { c with e := 0x80, f := 0x00 }) (0xCB, 0x13, 0x00) 0xC800 =
    some ({ State.reset.cpu with a := 0x01, f := 0x90, e := 0x00, pc := 0x0102 },
      8, 0x00) := by decide

/-- `CB 1C`, RR H; start: H=01, F=00. -/
theorem test_rr_h : seen (withCpu fun c => { c with h := 0x01, f := 0x00 }) (0xCB, 0x1C, 0x00) 0xC800 =
    some ({ State.reset.cpu with a := 0x01, f := 0x90, h := 0x00, pc := 0x0102 },
      8, 0x00) := by decide

/-- `CB 25`, SLA L; start: L=80, F=00. -/
theorem test_sla_l : seen (withCpu fun c => { c with l := 0x80, f := 0x00 }) (0xCB, 0x25, 0x00) 0xC800 =
    some ({ State.reset.cpu with a := 0x01, f := 0x90, l := 0x00, pc := 0x0102 },
      8, 0x00) := by decide

/-- `CB 2F`, SRA A; start: A=8A, F=00. -/
theorem test_sra_a : seen (withCpu fun c => { c with a := 0x8A, f := 0x00 }) (0xCB, 0x2F, 0x00) 0xC800 =
    some ({ State.reset.cpu with a := 0xC5, f := 0x00, pc := 0x0102 },
      8, 0x00) := by decide

/-- `CB 37`, SWAP A; start: A=F1, F=F0. -/
theorem test_swap_a : seen (withCpu fun c => { c with a := 0xF1, f := 0xF0 }) (0xCB, 0x37, 0x00) 0xC800 =
    some ({ State.reset.cpu with a := 0x1F, f := 0x00, pc := 0x0102 },
      8, 0x00) := by decide

/-- `CB 3A`, SRL D; start: D=FF, F=00. -/
theorem test_srl_d : seen (withCpu fun c => { c with d := 0xFF, f := 0x00 }) (0xCB, 0x3A, 0x00) 0xC800 =
    some ({ State.reset.cpu with a := 0x01, f := 0x10, d := 0x7F, pc := 0x0102 },
      8, 0x00) := by decide

/-- `CB 65`, BIT 4,L; start: L=EF, F=D0. -/
theorem test_bit_4_l : seen (withCpu fun c => { c with l := 0xEF, f := 0xD0 }) (0xCB, 0x65, 0x00) 0xC800 =
    some ({ State.reset.cpu with a := 0x01, f := 0xB0, l := 0xEF, pc := 0x0102 },
      8, 0x00) := by decide

/-- `CB BC`, RES 7,H; start: H=80. -/
theorem test_res_7_h : seen (withCpu fun c => { c with h := 0x80 }) (0xCB, 0xBC, 0x00) 0xC800 =
    some ({ State.reset.cpu with a := 0x01, f := 0xB0, h := 0x00, pc := 0x0102 },
      8, 0x00) := by decide

/-- `CB DB`, SET 3,E; start: E=00, F=00. -/
theorem test_set_3_e : seen (withCpu fun c => { c with e := 0x00, f := 0x00 }) (0xCB, 0xDB, 0x00) 0xC800 =
    some ({ State.reset.cpu with a := 0x01, f := 0x00, e := 0x08, pc := 0x0102 },
      8, 0x00) := by decide

/-- `CB 06`, RLC (HL); start: HL=C000, [C000]=80, F=00. -/
theorem test_rlc_atHL : seen (withByte (withCpu fun c => { c with h := 0xC0, l := 0x00, f := 0x00 }) 0xC000 0x80) (0xCB, 0x06, 0x00) 0xC000 =
    some ({ State.reset.cpu with a := 0x01, f := 0x10, h := 0xC0, l := 0x00, pc := 0x0102 },
      16, 0x01) := by decide

/-- `CB 7E`, BIT 7,(HL); start: HL=C000, [C000]=7F, F=10. -/
theorem test_bit_7_atHL : seen (withByte (withCpu fun c => { c with h := 0xC0, l := 0x00, f := 0x10 }) 0xC000 0x7F) (0xCB, 0x7E, 0x00) 0xC000 =
    some ({ State.reset.cpu with a := 0x01, f := 0xB0, h := 0xC0, l := 0x00, pc := 0x0102 },
      12, 0x7F) := by decide

/-- `CB 9E`, RES 3,(HL); start: HL=C000, [C000]=FF. -/
theorem test_res_3_atHL : seen (withByte (withCpu fun c => { c with h := 0xC0, l := 0x00 }) 0xC000 0xFF) (0xCB, 0x9E, 0x00) 0xC000 =
    some ({ State.reset.cpu with a := 0x01, f := 0xB0, h := 0xC0, l := 0x00, pc := 0x0102 },
      16, 0xF7) := by decide

/-- `C3 00 C0`, JP 0xC000; start: reset. -/
theorem test_jp_nn : seen State.reset (0xC3, 0x00, 0xC0) 0xC800 =
    some ({ State.reset.cpu with a := 0x01, f := 0xB0, pc := 0xC000 },
      16, 0x00) := by decide

/-- `C2 00 80`, JP NZ,0x8000; start: F=80. -/
theorem test_jp_nz_nn : seen (withCpu fun c => { c with f := 0x80 }) (0xC2, 0x00, 0x80) 0xC800 =
    some ({ State.reset.cpu with a := 0x01, f := 0x80, pc := 0x0103 },
      12, 0x00) := by decide

/-- `C2 00 80`, JP NZ,0x8000; start: F=70. -/
theorem test_jp_nz_nn_2 : seen (withCpu fun c => { c with f := 0x70 }) (0xC2, 0x00, 0x80) 0xC800 =
    some ({ State.reset.cpu with a := 0x01, f := 0x70, pc := 0x8000 },
      16, 0x00) := by decide

/-- `E9`, JP HL; start: HL=FFFF. -/
theorem test_jp_hl : seen (withCpu fun c => { c with h := 0xFF, l := 0xFF }) (0xE9, 0x00, 0x00) 0xC800 =
    some ({ State.reset.cpu with a := 0x01, f := 0xB0, h := 0xFF, l := 0xFF, pc := 0xFFFF },
      4, 0x00) := by decide

/-- `18 80`, JR -128; start: reset. -/
theorem test_jr_e : seen State.reset (0x18, 0x80, 0x00) 0xC800 =
    some ({ State.reset.cpu with a := 0x01, f := 0xB0, pc := 0x0082 },
      12, 0x00) := by decide

/-- `30 FD`, JR NC,-3; start: F=00. -/
theorem test_jr_nc_e : seen (withCpu fun c => { c with f := 0x00 }) (0x30, 0xFD, 0x00) 0xC800 =
    some ({ State.reset.cpu with a := 0x01, f := 0x00, pc := 0x00FF },
      12, 0x00) := by decide

/-- `38 10`, JR C,+16; start: F=10. -/
theorem test_jr_c_e : seen (withCpu fun c => { c with f := 0x10 }) (0x38, 0x10, 0x00) 0xC800 =
    some ({ State.reset.cpu with a := 0x01, f := 0x10, pc := 0x0112 },
      12, 0x00) := by decide

/-- `CD 00 20`, CALL 0x2000; start: reset. -/
theorem test_call_nn : seen State.reset (0xCD, 0x00, 0x20) 0xFFFC =
    some ({ State.reset.cpu with a := 0x01, f := 0xB0, sp := 0xFFFC, pc := 0x2000 },
      24, 0x03) := by decide

/-- `C4 00 20`, CALL NZ,0x2000; start: F=80. -/
theorem test_call_nz_nn : seen (withCpu fun c => { c with f := 0x80 }) (0xC4, 0x00, 0x20) 0xFFFC =
    some ({ State.reset.cpu with a := 0x01, f := 0x80, pc := 0x0103 },
      12, 0x00) := by decide

/-- `C9`, RET; start: SP=C000, [C000]=03, [C001]=01. -/
theorem test_ret : seen (withByte (withByte (withCpu fun c => { c with sp := 0xC000 }) 0xC000 0x03) 0xC001 0x01) (0xC9, 0x00, 0x00) 0xC800 =
    some ({ State.reset.cpu with a := 0x01, f := 0xB0, sp := 0xC002, pc := 0x0103 },
      16, 0x00) := by decide

/-- `C8`, RET Z; start: F=80, SP=C000, [C000]=03, [C001]=01. -/
theorem test_ret_z : seen (withByte (withByte (withCpu fun c => { c with f := 0x80, sp := 0xC000 }) 0xC000 0x03) 0xC001 0x01) (0xC8, 0x00, 0x00) 0xC800 =
    some ({ State.reset.cpu with a := 0x01, f := 0x80, sp := 0xC002, pc := 0x0103 },
      20, 0x00) := by decide

/-- `C8`, RET Z; start: F=00, SP=C000, [C000]=03, [C001]=01. -/
theorem test_ret_z_2 : seen (withByte (withByte (withCpu fun c => { c with f := 0x00, sp := 0xC000 }) 0xC000 0x03) 0xC001 0x01) (0xC8, 0x00, 0x00) 0xC800 =
    some ({ State.reset.cpu with a := 0x01, f := 0x00, sp := 0xC000, pc := 0x0101 },
      8, 0x00) := by decide

/-- `D9`, RETI; start: SP=C000, [C000]=34, [C001]=12. -/
theorem test_reti : seen (withByte (withByte (withCpu fun c => { c with sp := 0xC000 }) 0xC000 0x34) 0xC001 0x12) (0xD9, 0x00, 0x00) 0xC800 =
    some ({ State.reset.cpu with a := 0x01, f := 0xB0, sp := 0xC002, pc := 0x1234, ime := true },
      16, 0x00) := by decide

/-- `EF`, RST 0x28; start: SP=0000. -/
theorem test_rst_28 : seen (withCpu fun c => { c with sp := 0x0000 }) (0xEF, 0x00, 0x00) 0xFFFF =
    some ({ State.reset.cpu with a := 0x01, f := 0xB0, sp := 0xFFFE, pc := 0x0028 },
      16, 0x01) := by decide

/-- `00`, NOP; start: reset. -/
theorem test_nop : seen State.reset (0x00, 0x00, 0x00) 0xC800 =
    some ({ State.reset.cpu with a := 0x01, f := 0xB0, pc := 0x0101 },
      4, 0x00) := by decide

/-- `76`, HALT; start: reset. -/
theorem test_halt : seen State.reset (0x76, 0x00, 0x00) 0xC800 =
    some ({ State.reset.cpu with a := 0x01, f := 0xB0, pc := 0x0101, run := .halted },
      4, 0x00) := by decide

/-- `10 76`, STOP (second byte 0x76); start: reset. -/
theorem test_stop : seen State.reset (0x10, 0x76, 0x00) 0xC800 =
    some ({ State.reset.cpu with a := 0x01, f := 0xB0, pc := 0x0102, run := .stopped },
      4, 0x00) := by decide

/-- `F3`, DI; start: IME=1. -/
theorem test_di : seen (withCpu fun c => { c with ime := true }) (0xF3, 0x00, 0x00) 0xC800 =
    some ({ State.reset.cpu with a := 0x01, f := 0xB0, pc := 0x0101, ime := false },
      4, 0x00) := by decide

/-- `FB`, EI; start: reset. -/
theorem test_ei : seen State.reset (0xFB, 0x00, 0x00) 0xC800 =
    some ({ State.reset.cpu with a := 0x01, f := 0xB0, pc := 0x0101, imePending := true },
      4, 0x00) := by decide

/-! ## Faults, interrupts and devices: spec/95_test_vectors.md §1, §2.7, §3 -/

/-- `D3` at 0100: UnknownOpcode with pc 0x0100 and byte 0xD3, PC still at the opcode. -/
theorem test_undefined_opcode :
    let s := placeInstr State.reset (0xD3, 0x00, 0x00)
    (stateAfter s).fault = some { pc := 0x0100, byte := 0xD3 } ∧ (stateAfter s).cpu.pc = 0x0100 := by decide

/-- Vector I6: interrupt 2 with SP = 0001, PC = 1F34 pushes into ROM (dropped) and into IE. -/
theorem test_interrupt_pushes_where_sp_points :
    (match step { withCpu fun c => { c with sp := 0x0001, pc := 0x1F34, ime := true } with ieReg := 0x04, ifReg := 0x04 } with
      | .next t => some (t.cpu.sp, t.cpu.pc, t.cpu.ime, t.ieReg, t.ifReg, t.cycles)
      | _ => none) = some (0xFFFF, 0x0050, false, 0x34, 0x00, 20) := by decide

/-- Scenario 5: an MBC1 cartridge of four banks marked B0 to B3. -/
def scenario5 : State :=
  State.resetWith
    { rom := [(0x0000, 0xB0), (0x4000, 0xB1), (0x8000, 0xB2), (0xC000, 0xB3)], romSize := 0x10000, kind := .mbc1,
      romBanks := 4, ramBytes := 0 }

theorem test_mbc1_bank_select : [0x02, 0x00, 0x03, 0x04, 0x05, 0x20, 0x21, 0xE2].map
    (fun v => memRead (memWrite scenario5 0x2000 v) 0x4000) = [0xB2, 0xB1, 0xB3, 0xB0, 0xB1, 0xB1, 0xB1, 0xB2] := by decide

/-- Scenario 6: two sprites on line 0, by LCDC = 82, OBP0 = E4, OBP1 = D8. -/
def scenario6 : State :=
  { State.reset with
    vram := (List.range 8).map fun r => (0x10 + 2 * r, 0xFF)
    oam := [(0, 0x10), (1, 0x08), (2, 0x01), (4, 0x10), (5, 0x0A), (6, 0x01), (7, 0x10)]
    ppu := { State.reset.ppu with lcdc := 0x82, obp0 := 0xE4, obp1 := 0xD8 } }

theorem test_sprite_priority :
    (List.range 12).map (pixelShade scenario6) = [1, 1, 1, 1, 1, 1, 1, 1, 2, 2, 0, 0] := by decide

/-! ## Witnesses: a state and operands that meet the hypotheses of each statement -/

/-- A machine right after reset with some fields of IE, IF, and the CPU changed. -/
def atBoundary (f : Cpu → Cpu) (ie if_ : Byte) : State := { withCpu f with ieReg := ie, ifReg := if_ }

/-- Reset with 3E 42 at PC in WRAM. -/
def running : State := { withCpu fun c => { c with pc := 0xC000 } with wram := [(0, 0x3E), (1, 0x42)] }

/-- Reset with an undefined opcode at PC in WRAM. -/
def undefinedAtPC : State := { withCpu fun c => { c with pc := 0xC000 } with wram := [(0, 0xDD)] }

/-- Reset with EI, DI or RETI at PC in WRAM. -/
def controlAtPC (b : Byte) (p : Bool) : State := { withCpu fun c => { c with pc := 0xC000, imePending := p } with wram := [(0, b)] }

theorem reset_live : Live State.reset := ⟨rfl, rfl⟩

theorem reset_memories_wf : MemoriesWf State.reset := ⟨rfl, rfl, rfl, rfl, rfl, rfl, rfl⟩

theorem reset_scan_wf : ScanWf State.reset.ppu := ⟨by decide, by decide, by decide, by decide, by decide, by decide⟩

theorem reset_framebuffer_wf : FramebufferWf State.reset.ppu :=
  ⟨List.length_replicate, fun row h => by rw [List.eq_of_mem_replicate h, List.length_replicate]⟩

theorem reset_inv : Inv State.reset :=
  ⟨reset_memories_wf, rfl, by unfold BankLoWf; decide, reset_scan_wf, reset_framebuffer_wf,
    fun h => absurd h (by decide), rfl⟩

theorem running_executes : Executes running := by unfold Executes Live; decide

/-- StepRunsTheDecodedInstruction: also EnableInterruptsIsDelayed's first hypotheses. -/
theorem witness_step_runs : Executes running ∧
    decode [memRead running running.cpu.pc, memRead running (running.cpu.pc + 1), memRead running (running.cpu.pc + 2)] =
      .ok (.ld_a_n 0x42, [0x00]) := by
  refine ⟨running_executes, ?_⟩
  rw [show memRead running running.cpu.pc = 0x3E by decide, show memRead running (running.cpu.pc + 1) = 0x42 by decide,
    show memRead running (running.cpu.pc + 2) = 0x00 by decide]
  rfl

/-- DecodeOfEncodeIsTheInstruction, EncodeOfDecodeIsTheBytes, LengthIsGivenByTheOpcodeByte: one word of each length. -/
theorem witness_decoding : (Instr.call_nn 0x1234).WellFormed ∧ decode [0x00, 0xFF] = .ok (.nop, [0xFF]) ∧
    decode [0x10, 0x76] = .ok (.stop 0x76, []) ∧ decode [0xCD, 0x34, 0x12] = .ok (.call_nn 0x1234, []) ∧
    (∀ u, Instr.call_nn 0x1234 ≠ .illegal u) := ⟨by decide, rfl, rfl, rfl, fun _ => nofun⟩

/-- OnlyTheElevenUndefinedOpcodesFault: its second and third clauses. -/
theorem witness_undefined_decodes : decode3 0xD3 0x00 0x00 = .illegal .opD3 ∧
    exec (.illegal .opD3) State.reset = .fault (.unknownOpcode 0x00FF 0xD3) := ⟨rfl, rfl⟩

/-- MemoryFrameOfEveryInstruction: a form that stores (at HL = 014D, in ROM, and in WRAM) and one that stores nothing. -/
theorem witness_memory_frame :
    (∀ s : State, ∃ t, exec .inc_atHL s = .next t) ∧
    storedAddresses State.reset .inc_atHL = [State.reset.hl] ∧ storeReaches State.reset State.reset.hl 0xC000 = false ∧
    storedAddresses State.reset .push_bc = [State.reset.cpu.sp - 1, State.reset.cpu.sp - 2] ∧
    storeReaches State.reset (State.reset.cpu.sp - 1) 0xC000 = false ∧
    storeReaches State.reset (State.reset.cpu.sp - 2) 0xC000 = false ∧
    storedAddresses State.reset .nop = [] := ⟨fun _ => ⟨_, rfl⟩, rfl, by decide, rfl, by decide, by decide, rfl⟩

/-- LowNibbleOfFStaysZero, OnlyControlInstructionsTouchControlState. -/
theorem witness_low_nibble : State.reset.cpu.f &&& 0x0F = 0 ∧ (∀ s : State, ∃ t, exec .daa s = .next t) ∧
    Instr.daa ≠ .di ∧ Instr.daa ≠ .reti ∧ Instr.daa ≠ .ei ∧ Instr.daa ≠ .halt ∧ (∀ b, Instr.daa ≠ .stop b) :=
  ⟨by decide, fun _ => ⟨_, rfl⟩, by decide, by decide, by decide, by decide, fun _ => nofun⟩

/-- RotateOperand and ShiftAndSwapOperand. -/
theorem witness_rotations : RotOp.rl ∈ ([.rlc, .rrc, .rl, .rr] : List RotOp) ∧
    RotOp.swap ∈ ([.sla, .sra, .swap, .srl] : List RotOp) := by decide

/-- DecimalAdjust: N = 0 and N = 1. DecimalAdditionIsRight: x = 45, y = 38. -/
theorem witness_decimal : (withCpu fun c => { c with f := 0x00 }).flagN = false ∧
    (withCpu fun c => { c with f := 0x40 }).flagN = true ∧
    (withCpu fun c => { c with a := 0x45, b := 0x38 }).cpu.a = BitVec.ofNat 8 (16 * (45 / 10 % 10) + 45 % 10) ∧
    (withCpu fun c => { c with a := 0x45, b := 0x38 }).cpu.b = BitVec.ofNat 8 (16 * (38 / 10 % 10) + 38 % 10) := by decide

/-- Jumps, CallsAndRestarts, Returns: every condition holds somewhere and fails somewhere. -/
theorem witness_conditions : (withCpu fun c => { c with f := 0x00 }).cpu.f.getLsbD 7 = false ∧
    (withCpu fun c => { c with f := 0x00 }).cpu.f.getLsbD 4 = false ∧
    (withCpu fun c => { c with f := 0x90 }).cpu.f.getLsbD 7 = true ∧
    (withCpu fun c => { c with f := 0x90 }).cpu.f.getLsbD 4 = true := by decide

/-- ReturnUndoesTheCall: the stack right below 0xE000, at the bottom of WRAM, and in HRAM as reset leaves SP. -/
theorem witness_return :
    MemoriesWf State.reset ∧
    [(0xE000 : Word), 0xC002, 0xFFFE, 0xFFFF, 0xFF82].all (fun sp => [sp - 1, sp - 2].all fun a =>
      (decide (0xC000 ≤ a.toNat) && decide (a.toNat < 0xE000)) || (decide (0xFF80 ≤ a.toNat) && decide (a.toNat < 0xFFFF))) = true :=
  ⟨reset_memories_wf, by decide⟩

/-- EnableInterruptsIsDelayed: each clause, with ime_pending set or not and DI, EI, RETI or another instruction at PC. -/
theorem witness_enable_delay :
    (∃ t, cpuStep running = .next t) ∧ fetchInstr running ≠ .di ∧ fetchInstr running ≠ .reti ∧
    (controlAtPC 0x00 true).cpu.imePending = true ∧ fetchInstr (controlAtPC 0x00 true) ≠ .di ∧
    fetchInstr (controlAtPC 0xF3 true) = .di ∧ fetchInstr (controlAtPC 0xFB false) = .ei ∧
    running.cpu.imePending = false := ⟨⟨_, rfl⟩, by decide, by decide, rfl, by decide, by decide, by decide, rfl⟩

theorem witness_enable_delay_executes : Executes (controlAtPC 0x00 true) ∧ Executes (controlAtPC 0xF3 true) ∧
    Executes (controlAtPC 0xFB false) := by unfold Executes Live; decide

/-- InterruptIsTaken: the least and the greatest interrupt. -/
theorem witness_interrupt :
    let s := atBoundary (fun c => { c with ime := true }) 0x1F 0xFF
    let t := atBoundary (fun c => { c with ime := true }) 0x10 0xF8
    Live s ∧ s.cpu.run ≠ .stopped ∧ s.cpu.ime = true ∧ s.ieReg.getLsbD 0 = true ∧ s.ifReg.getLsbD 0 = true ∧
    Live t ∧ t.ieReg.getLsbD 4 = true ∧ t.ifReg.getLsbD 4 = true ∧
    (∀ m, m < 4 → (t.ieReg.getLsbD m && t.ifReg.getLsbD m) = false) := by unfold Live; decide

/-- NoInterruptWithoutEnableAndRequest, by R404: the lowest bit enabled and requested is taken, bit 3 like the others; none
with IME = 0, though one is pending; none, and none pending, where only bits 5 to 7 are set in both, or no bit is. -/
theorem witness_interrupt_to_take :
    let at_ (ime : Bool) := atBoundary (fun c => { c with ime := ime })
    [at_ true 0xFF 0xFF, at_ true 0x1A 0x1C, at_ true 0xF0 0xFF, at_ false 0x1F 0x1F, at_ true 0xE0 0xFF, at_ true 0x15 0x0A].map
      interruptToTake = [some 0, some 3, some 4, none, none, none] ∧
    (at_ false 0x1F 0x1F).pending ≠ 0 ∧ (at_ true 0xE0 0xFF).pending = 0 ∧ (at_ true 0x15 0x0A).pending = 0 := by decide

/-- HaltIdlesAndWakesStopIdles: idle in HALT, stopped with a request, and HALT with IME = 0 and a request. -/
theorem witness_halt :
    let idle := atBoundary (fun c => { c with run := .halted }) 0xE0 0xFF
    let stopped := atBoundary (fun c => { c with run := .stopped, ime := true }) 0x1F 0x1F
    let wakes := atBoundary (fun c => { c with run := .halted }) 0x01 0x01
    Live idle ∧ idle.cpu.run = .halted ∧ idle.pending = 0 ∧ Live stopped ∧ stopped.cpu.run = .stopped ∧
    Live wakes ∧ wakes.cpu.run = .halted ∧ wakes.cpu.ime = false ∧ wakes.pending ≠ 0 := by unfold Live; decide

/-- UndefinedOpcodeEndsTheRun. -/
theorem witness_undefined : Executes undefinedAtPC ∧ memRead undefinedAtPC undefinedAtPC.cpu.pc = 0xDD := by
  unfold Executes Live; decide

/-- StepStopsOnlyForTheSpecsReasons: a live machine that fetches a defined opcode, and a refused step. -/
theorem witness_step_stops : Live running ∧ memRead running running.cpu.pc = 0x3E ∧
    step { State.reset with ended := true } = .refused .runEnded := ⟨⟨rfl, rfl⟩, by decide, rfl⟩

/-- TickRunsCpuThenTimerThenPpu: with the quit flag clear and set. -/
theorem witness_tick : Live running ∧ (∃ u, cpuStep running = .next u ∧ u.quitRequested = false ∧ u.fault = none) ∧
    (∃ u, cpuStep (requestQuit running) = .next u ∧ u.quitRequested = true ∧ u.fault = none) :=
  ⟨⟨rfl, rfl⟩, ⟨_, rfl, rfl, rfl⟩, ⟨_, rfl, rfl, rfl⟩⟩

/-- AddressSpaceDispatch: what lies at both ends of every range; no address is in two ranges. -/
theorem witness_address_space :
    ([0x0000, 0x7FFF, 0x8000, 0x9FFF, 0xA000, 0xBFFF, 0xC000, 0xDFFF] : List Word).map target =
      [.rom 0, .rom 0x7FFF, .vram 0, .vram 0x1FFF, .extRam 0, .extRam 0x1FFF, .wram 0, .wram 0x1FFF] ∧
    ([0xE000, 0xFDFF, 0xFE00, 0xFE9F, 0xFEA0, 0xFEFF, 0xFF00, 0xFF7F, 0xFF80, 0xFFFE, 0xFFFF] : List Word).map target =
      [.wram 0, .wram 0x1DFF, .oam 0, .oam 159, .unusable, .unusable, .io .p1, .io (.plain 0x7F), .hram 0, .hram 126, .ie] := by
  simp [target, ioRegAt]

/-- IoRegistersAsTabled: the bytes with no register at the ends of their ranges. -/
theorem witness_plain_io :
    ([0xFF01, 0xFF03, 0xFF08, 0xFF0E, 0xFF10, 0xFF3F, 0xFF4C, 0xFF7F] : List Word).map target =
      [0x01, 0x03, 0x08, 0x0E, 0x10, 0x3F, 0x4C, 0x7F].map (fun o => .io (.plain o)) ∧
    (∀ o ∈ [0x01, 0x03, 0x08, 0x0E, 0x10, 0x3F, 0x4C, 0x7F], o < 0x80 ∧
      o ∉ ([0x00, 0x04, 0x05, 0x06, 0x07, 0x0F] : List Nat) ∧ (o < 0x40 ∨ 0x4C ≤ o)) := by
  refine ⟨?_, by decide⟩
  simp [target, ioRegAt]

/-- WrittenMemoryReadsBack: the ends of its ranges. -/
theorem witness_written_memory :
    [(0xC000 : Word), 0xFE9F, 0xFF80, 0xFFFF, 0x8000, 0x9FFF].map
      (fun a => memRead (memWrite State.reset a 0xA5) a) = List.replicate 6 0xA5 ∧
    [(0xFF01 : Word), 0xFF03, 0xFF08, 0xFF0E, 0xFF10, 0xFF3F, 0xFF4C, 0xFF7F].map
      (fun a => memRead (memWrite State.reset a 0xA5) a) = List.replicate 8 0xA5 ∧
    [(0xC000 : Word), 0xDDFF].map (fun a => memRead (memWrite State.reset a 0xA5) (a + 0x2000)) = [0xA5, 0xA5] ∧
    [(0xE000 : Word), 0xFDFF].map (fun a => memRead (memWrite State.reset a 0xA5) (a - 0x2000)) = [0xA5, 0xA5] := by decide

/-- StoreLeavesOtherBytesAlone: a store does not reach its neighbour, nor another region; it does reach its mirror. -/
theorem witness_store : storeReaches State.reset 0xC000 0xC001 = false ∧ storeReaches State.reset 0xFF46 0xC000 = false ∧
    storeReaches State.reset 0xC000 0xE000 = true ∧ storeReaches State.reset 0xFF46 0xFE00 = true := by decide

/-- OamDmaCopiesThePage. -/
theorem witness_oam_dma : State.reset.oam.wf 160 = true ∧
    (memWrite { State.reset with wram := [(0, 0x11), (0x9F, 0x22)] } 0xFF46 0xC0).oam = [(0, 0x11), (0x9F, 0x22)] := by decide

/-- A machine with 32 KiB of external RAM whose offset 5 is marked 11, 22, 33 and 44 in banks 0 to 3. -/
def withExtRam (kind : MbcKind) (mbc : Mbc) : State :=
  { State.resetWith { rom := [], romSize := 0x8000, kind := kind, romBanks := 2, ramBytes := 0x8000 } with
    mbc := mbc, extRam := [(0x0005, 0x11), (0x2005, 0x22), (0x4005, 0x33), (0x6005, 0x44)] }

/-- BankControllerMapsTheCartridge, its external RAM clauses (R135, R138): NoMBC with RAM; MBC1 enabled in mode 0 (bank 0
whatever bank_hi is) and in mode 1 (bank bank_hi); MBC1 disabled; no RAM. Each meets its clause's premises. -/
theorem witness_external_ram :
    let noMbc := withExtRam .noMbc State.reset.mbc
    let mode0 := withExtRam .mbc1 { State.reset.mbc with ramEnable := true, bankHi := 2 }
    let mode1 := withExtRam .mbc1 { State.reset.mbc with ramEnable := true, bankHi := 2, mode := true }
    let disabled := withExtRam .mbc1 State.reset.mbc
    (∀ s ∈ [noMbc, mode0, mode1, disabled], s.cart.ramBytes ≠ 0) ∧ State.reset.cart.ramBytes = 0 ∧
    (∀ s ∈ [mode0, mode1], s.cart.kind = .mbc1 ∧ s.mbc.ramEnable = true) ∧ disabled.mbc.ramEnable = false ∧
    [noMbc, mode0, mode1, disabled, State.reset].map (extRamRead · 5) = [0x11, 0x11, 0x33, 0xFF, 0xFF] ∧
    [noMbc, mode0, mode1, disabled].map (fun s => (extRamWrite s 5 0x99).extRam.read 0x0005) = [0x99, 0x99, 0x11, 0x11] ∧
    (extRamWrite mode1 5 0x99).extRam.read 0x4005 = 0x99 ∧ extRamWrite State.reset 5 0x99 = State.reset := by decide

/-- BankControllerMapsTheCartridge, its image and register clauses: both kinds, at the ends of the register ranges. -/
theorem witness_bank_controller :
    State.reset.cart.kind = .noMbc ∧ State.reset.cart.ramBytes = 0 ∧ scenario5.cart.kind = .mbc1 ∧
    (memWrite scenario5 0x0000 0x0A).mbc.ramEnable = true ∧ (memWrite scenario5 0x1FFF 0x1A).mbc.ramEnable = true ∧
    (memWrite scenario5 0x3FFF 0x20).mbc.bankLo = 1 ∧ (memWrite scenario5 0x5FFF 0x07).mbc.bankHi = 3 ∧
    (memWrite scenario5 0x7FFF 0x01).mbc.mode = true ∧ scenario5.mbc.ramEnable = false := by decide

/-- TimerAdvance: disabled; enabled without an overflow (room for all increments); enabled with one. -/
theorem witness_timer :
    let off := State.reset.timer
    let on : Timer := { State.reset.timer with tac := 0x05, tima := 0xFE, tma := 0x10 }
    off.tac.getLsbD 2 = false ∧ on.tac.getLsbD 2 = true ∧ (on.tacc + 16) / 16 ≤ 255 - on.tima.toNat ∧
    255 - on.tima.toNat < (on.tacc + 32) / 16 ∧
    (timerAdvance 32 { State.reset with timer := on }).timer.tima = 0x10 ∧
    (timerAdvance 32 { State.reset with timer := on }).ifReg = 0x04 := by decide

/-- JoypadNibbleAndRequests: a line falls; none falls; STOP ends. -/
theorem witness_joypad :
    let right : Buttons := { noButtons with right := true }
    let s := { withCpu fun c => { c with run := .stopped } with joy := { State.reset.joy with sel4 := false } }
    s.joy.nibble.getLsbD 0 = true ∧ ({ s.joy with pressed := right } : Joypad).nibble.getLsbD 0 = false ∧ right ≠ noButtons ∧
    (setButtons right s).ifReg = 0x10 ∧ (setButtons right s).cpu.run = .running ∧
    (setButtons right State.reset).ifReg = 0x00 := by decide

/-- PpuTickByPosition and LinesTake456AndFrames70224: the LCD off, and on at well-formed positions at every event. -/
theorem witness_ppu_off : ({ State.reset with ppu := { State.reset.ppu with lcdc := 0x11 } } : State).ppu.lcdc.getLsbD 7 = false := by
  decide

/-- The PPU at a position, in a mode, with the LCD on. -/
def ppuAt (ly : Byte) (dot : Nat) (mode : PpuMode) : Ppu := { State.reset.ppu with ly := ly, dot := dot, mode := mode }

theorem witness_ppu_on : State.reset.ppu.lcdc.getLsbD 7 = true ∧ ScanWf (ppuAt 0 79 .oamScan) ∧ ScanWf (ppuAt 143 251 .drawing) ∧
    ScanWf (ppuAt 143 455 .hblank) ∧ ScanWf (ppuAt 153 455 .vblank) ∧ ScanWf (ppuAt 0 0 .hblank) := by
  refine ⟨by decide, ?_, ?_, ?_, ?_, ?_⟩ <;> exact ⟨by decide, by decide, by decide, by decide, by decide, by decide⟩

/-- Two T-states before the entry to line 144, with 3E 42 at PC and a queue of button sets. -/
def beforeVBlank (inputs : List Buttons) : State := { running with ppu := ppuAt 143 454 .hblank, inputs := inputs }

/-- TickRunsCpuThenTimerThenPpu, its frame clause (R400, D29): the tick that enters line 144 finds a frame ready, clears the
flag and takes the oldest set of the queue, or the host's free set where the queue is empty; with quit it also ends the run. -/
theorem witness_frame_ready :
    let a : Buttons := { noButtons with a := true }
    let s := beforeVBlank [a, noButtons]
    Live s ∧ (∃ u, cpuStep s = .next u ∧ (ppuAdvance u.cycles (timerAdvance u.cycles u)).ppu.frameReady = true) ∧
    (∃ t, step s = .next t ∧ t.ppu.frameReady = false ∧ t.joy.pressed = a ∧ t.inputs = [noButtons] ∧ t.frames = 1) ∧
    (∃ t, step (beforeVBlank []) = .next t ∧ t.ppu.frameReady = false ∧ t.joy.pressed = Config.hostButtons 0 ∧ t.frames = 1) ∧
    (∃ t, step (requestQuit s) = .next t ∧ t.ended = true ∧ t.frames = 1) :=
  ⟨⟨rfl, rfl⟩, ⟨_, rfl, rfl⟩, ⟨_, rfl, rfl, rfl, rfl, rfl⟩, ⟨_, rfl, rfl, rfl, rfl⟩, ⟨_, rfl, rfl, rfl⟩⟩

/-- BackgroundAndWindowPixels and SpriteSelectionAndPriority: first and last column; sprites on and off. -/
theorem witness_pixels : FramebufferWf State.reset.ppu ∧ State.reset.ppu.ly.toNat < 144 ∧ State.reset.ppu.lcdc.getLsbD 1 = false ∧
    scenario6.ppu.lcdc.getLsbD 1 = true ∧ sortedSprites scenario6 = [0, 1] ∧ 159 < 160 :=
  ⟨reset_framebuffer_wf, by decide, by decide, by decide, by decide, by decide⟩

/-- An image with a header that the check accepts: all zero but for the checksum 0xE7 (25 times 0 - 0 - 1 is 0xE7). -/
def smallestImage : List Byte := List.replicate 0x14D 0x00 ++ [0xE7, 0x00, 0x00]

/-- ConstructionChecksTheHeader and ResetIsWellFormed: an image that is accepted and two that are not. -/
theorem witness_construct :
    construct smallestImage =
      .ok (State.resetWith { rom := [(0x14D, 0xE7)], romSize := 0x150, kind := .noMbc, romBanks := 2, ramBytes := 0 }) ∧
    construct [] = .error .romTooShort ∧ construct (List.replicate 0x150 0x00) = .error .checksumMismatch := ⟨rfl, rfl, rfl⟩

/-- EveryStepKeepsTheInvariant and NoStepChangesTheCartridge. -/
theorem witness_invariant : Inv State.reset ∧ ∃ t, step State.reset = .next t :=
  ⟨reset_inv, ⟨afterCpuStep (promoteIme false .nop ((atExec State.reset).withCycles 4)), rfl⟩⟩

end Sys2Proof.Tests
end

section
/-! PROOFS. The machine's state: what every step keeps, what a register write changes, F's low nibble, the control state,
and the values after reset. -/

namespace Sys2Proof.Machine

/-! ## Every step keeps the invariant -/

/-- Settles O59: the CPU step keeps what holds at every moment of a tick, and the devices' part of the tick restores the
rest, whatever the accumulator and the frame flag were. -/
theorem everyStepKeepsTheInvariant : Obligations.EveryStepKeepsTheInvariant := by
  intro s t hi h
  obtain ⟨_, _, u, hu, rfl⟩ := tick_next h
  exact afterCpuStep_establishes (cpuStep_coreInv hu hi.core)

/-! ## No step changes the cartridge -/

/-- The parts that no step writes are the same in both states: the cartridge, the fault record and the quit flag. -/
def SameFixedParts (s t : State) : Prop := t.cart = s.cart ∧ t.fault = s.fault ∧ t.quitRequested = s.quitRequested

theorem SameFixedParts.refl (s : State) : SameFixedParts s s := ⟨rfl, rfl, rfl⟩

theorem SameFixedParts.trans {s t u : State} (h : SameFixedParts s t) (h' : SameFixedParts t u) : SameFixedParts s u :=
  ⟨h'.1.trans h.1, h'.2.1.trans h.2.1, h'.2.2.trans h.2.2⟩

theorem takeInterrupt_sameFixedParts (n : Nat) (s : State) : SameFixedParts s (takeInterrupt n s) := by
  rw [takeInterrupt_eq]
  simp [SameFixedParts]

theorem promoteIme_sameFixedParts (b : Bool) (i : Instr) (s : State) : SameFixedParts s (promoteIme b i s) := by
  unfold promoteIme
  split <;> exact .refl s

theorem ExecEffect.sameFixedParts {s t : State} {l : List Word} (h : ExecEffect s l t) : SameFixedParts s t := by
  obtain ⟨hcart, hfault, _, _, hquit, _, _⟩ := h.keeps
  exact ⟨hcart, hfault, hquit⟩

theorem cpuStep_sameFixedParts {s t : State} (h : cpuStep s = .next t) : SameFixedParts s t := by
  rcases cpuStep_cases h with ⟨_, rfl⟩ | ⟨_, n, _, rfl⟩ | ⟨_, _, u, hu, rfl⟩
  · exact .refl s
  · exact takeInterrupt_sameFixedParts n s
  · have hexec : SameFixedParts (atExec s) u := (exec_effect hu).sameFixedParts
    exact hexec.trans (promoteIme_sameFixedParts _ _ u)

theorem timerAdvance_sameFixedParts (c : Nat) (s : State) : SameFixedParts s (timerAdvance c s) := by
  obtain ⟨_, _, _, h, _⟩ := timerAdvance_shape c s
  rw [h]
  exact .refl s

theorem ppuAdvance_sameFixedParts (c : Nat) (s : State) : SameFixedParts s (ppuAdvance c s) := by
  obtain ⟨_, _, _, _, _, _, _, _, h⟩ := ppuAdvance_change c s
  rw [h]
  exact .refl s

theorem presentFrame_sameFixedParts (s : State) : SameFixedParts s (presentFrame s) := by
  obtain ⟨_, _, _, _, _, _, h⟩ := presentFrame_shape s
  rw [h]
  exact .refl s

theorem quitTest_sameFixedParts (s : State) : SameFixedParts s (quitTest s) := by
  obtain ⟨_, h⟩ := quitTest_shape s
  rw [h]
  exact .refl s

theorem afterCpuStep_sameFixedParts (s : State) : SameFixedParts s (afterCpuStep s) :=
  (timerAdvance_sameFixedParts _ s).trans
    ((ppuAdvance_sameFixedParts _ _).trans ((presentFrame_sameFixedParts _).trans (quitTest_sameFixedParts _)))

/-- Settles O60: every part of a tick keeps these parts, and a tick that answers a next state began without a fault. -/
theorem noStepChangesTheCartridge : Obligations.NoStepChangesTheCartridge := by
  intro s t h
  obtain ⟨hfault, _, u, hu, rfl⟩ := tick_next h
  obtain ⟨hcart, hsame, hquit⟩ := (cpuStep_sameFixedParts hu).trans (afterCpuStep_sameFixedParts u)
  exact ⟨hcart, hsame.trans hfault, hquit⟩

/-! ## What a register write changes -/

theorem State.reg8_setReg8 (s : State) (r r' : Reg8) (v : Byte) :
    (s.setReg8 r v).reg8 r' = if r' = r then v else s.reg8 r' := by
  split
  · next h => rw [h, State.reg8_setReg8_same]
  · next h => exact State.reg8_setReg8_other s r r' v h

theorem State.pair_setPair_other (s : State) (p p' : Reg16) (v : Word) (h : p' ≠ p) :
    (s.setPair p v).pair p' = s.pair p' := by
  cases p <;> cases p' <;> first | rfl | exact absurd rfl h

theorem State.pair_setPair (s : State) (p p' : Reg16) (v : Word) :
    (s.setPair p v).pair p' = if p' = p then v else s.pair p' := by
  split
  · next h => rw [h, State.pair_setPair_same]
  · next h => exact State.pair_setPair_other s p p' v h

/-- A register write changes nothing outside the CPU. -/
theorem State.setReg8_eq_withCpu (s : State) (r : Reg8) (v : Byte) :
    s.setReg8 r v = { s with cpu := (s.setReg8 r v).cpu } := by
  cases r <;> rfl

theorem State.setPair_eq_withCpu (s : State) (p : Reg16) (v : Word) :
    s.setPair p v = { s with cpu := (s.setPair p v).cpu } := by
  cases p <;> rfl

/-- Settles O9, from the round trips of the registers and pairs and from what a write leaves alone in the CPU. -/
theorem pairsAliasTheirHalves : Obligations.PairsAliasTheirHalves := by
  refine ⟨fun s => ⟨rfl, rfl, rfl, rfl⟩, State.reg8_setReg8, State.pair_setPair,
    fun s v => ⟨rfl, rfl, rfl, rfl, State.af_setAF s v⟩, fun s r v => ?_, fun s p v => ?_⟩
  · exact ⟨_, s.setReg8_eq_withCpu r v, by simp⟩
  · exact ⟨_, s.setPair_eq_withCpu p v, by simp⟩

/-! ## F's low nibble -/

theorem ExecEffect.flags {s t : State} {l : List Word} (h : ExecEffect s l t) (hs : s.cpu.f &&& 0x0F = 0) :
    t.cpu.f &&& 0x0F = 0 := by
  cases h with
  | registers c n hf hn => exact hf hs
  | store a v c n hf hn => exact hf hs
  | stores a v a' v' c n hf hn => exact hf hs

/-- Settles O10: the effect of every meaning keeps the nibble, and AF's low byte is F. -/
theorem lowNibbleOfFStaysZero : Obligations.LowNibbleOfFStaysZero := by
  refine ⟨fun s => ⟨rfl, rfl, rfl, rfl⟩, fun s v => rfl, fun s v => rfl, fun i s t hs h => ?_, fun s hs => ?_⟩
  · exact (exec_effect h).flags hs
  · rw [State.af, loByte_word16, hs]

/-! ## The control state -/

/-- IME, ime_pending and the run latch (spec/10_state.md R29 to R31). -/
def State.control (s : State) : Bool × Bool × RunState := (s.cpu.ime, s.cpu.imePending, s.cpu.run)

/-- The two states agree in each part of the control state. -/
theorem State.control_eq_iff {s t : State} :
    t.control = s.control ↔
      t.cpu.ime = s.cpu.ime ∧ t.cpu.imePending = s.cpu.imePending ∧ t.cpu.run = s.cpu.run := by
  simp [State.control]

@[simp] theorem State.setReg8_control (s : State) (r : Reg8) (v : Byte) : (s.setReg8 r v).control = s.control := by
  cases r <;> rfl
@[simp] theorem State.setPair_control (s : State) (p : Reg16) (v : Word) : (s.setPair p v).control = s.control := by
  cases p <;> rfl
@[simp] theorem State.setStkPair_control (s : State) (p : StkPair) (v : Word) : (s.setStkPair p v).control = s.control := by
  cases p <;> rfl
@[simp] theorem State.setA_control (s : State) (v : Byte) : (s.setA v).control = s.control := rfl
@[simp] theorem State.setF_control (s : State) (v : Byte) : (s.setF v).control = s.control := rfl
@[simp] theorem State.setHL_control (s : State) (v : Word) : (s.setHL v).control = s.control := rfl
@[simp] theorem State.setSP_control (s : State) (v : Word) : (s.setSP v).control = s.control := rfl
@[simp] theorem State.setPC_control (s : State) (v : Word) : (s.setPC v).control = s.control := rfl
@[simp] theorem State.withCycles_control (s : State) (n : Nat) : (s.withCycles n).control = s.control := rfl

@[simp] theorem memWrite_control (s : State) (a : Word) (v : Byte) : (memWrite s a v).control = s.control := by
  simp [State.control]

@[simp] theorem push16_control (s : State) (v : Word) : (push16 s v).control = s.control := by
  simp [push16]

@[simp] theorem writeOperand_control (s : State) (o : Operand8) (v : Byte) : (writeOperand s o v).control = s.control := by
  cases o with
  | reg r => exact s.setReg8_control r v
  | atHL => exact memWrite_control s s.hl v

/-! None of the shared operations that the meanings are made of writes the control state. -/

@[simp] theorem loadReg_control (dst src : Reg8) (s : State) : (loadReg dst src s).control = s.control := by simp [loadReg]
@[simp] theorem loadImm_control (dst : Reg8) (n : Byte) (s : State) : (loadImm dst n s).control = s.control := by simp [loadImm]
@[simp] theorem loadFromHL_control (dst : Reg8) (s : State) : (loadFromHL dst s).control = s.control := by simp [loadFromHL]
@[simp] theorem storeToHL_control (src : Reg8) (s : State) : (storeToHL src s).control = s.control := by simp [storeToHL]
@[simp] theorem loadA_control (a : Word) (n : Nat) (s : State) : (loadA a n s).control = s.control := by simp [loadA]
@[simp] theorem storeA_control (a : Word) (n : Nat) (s : State) : (storeA a n s).control = s.control := by simp [storeA]
@[simp] theorem thenMoveHL_control (d : Word) (s : State) : (thenMoveHL d s).control = s.control := by simp [thenMoveHL]
@[simp] theorem loadPair_control (p : Reg16) (v : Word) (s : State) : (loadPair p v s).control = s.control := by simp [loadPair]
@[simp] theorem storeSP_control (a : Word) (s : State) : (storeSP a s).control = s.control := by simp [storeSP]
@[simp] theorem loadHLFromSP_control (e : Byte) (s : State) : (loadHLFromSP e s).control = s.control := by simp [loadHLFromSP]
@[simp] theorem pushPair_control (p : StkPair) (s : State) : (pushPair p s).control = s.control := by simp [pushPair]
@[simp] theorem popPair_control (p : StkPair) (s : State) : (popPair p s).control = s.control := by simp [popPair, popState]

@[simp] theorem aluWith_control (op : AluOp) (v : Byte) (n : Nat) (s : State) : (aluWith op v n s).control = s.control := by
  cases op <;> rfl
@[simp] theorem aluReg_control (op : AluOp) (r : Reg8) (s : State) : (aluReg op r s).control = s.control := by simp [aluReg]
@[simp] theorem aluAtHL_control (op : AluOp) (s : State) : (aluAtHL op s).control = s.control := by simp [aluAtHL]
@[simp] theorem aluImm_control (op : AluOp) (v : Byte) (s : State) : (aluImm op v s).control = s.control := by simp [aluImm]
@[simp] theorem incOperand_control (o : Operand8) (n : Nat) (s : State) : (incOperand o n s).control = s.control := by
  simp [incOperand]
@[simp] theorem decOperand_control (o : Operand8) (n : Nat) (s : State) : (decOperand o n s).control = s.control := by
  simp [decOperand]
@[simp] theorem decimalAdjust_control (s : State) : (decimalAdjust s).control = s.control := by simp [decimalAdjust]
@[simp] theorem addHL_control (p : Reg16) (s : State) : (addHL p s).control = s.control := by simp [addHL]
@[simp] theorem incPair_control (p : Reg16) (s : State) : (incPair p s).control = s.control := by simp [incPair]
@[simp] theorem decPair_control (p : Reg16) (s : State) : (decPair p s).control = s.control := by simp [decPair]
@[simp] theorem addSP_control (e : Byte) (s : State) : (addSP e s).control = s.control := by simp [addSP]

@[simp] theorem rotateA_control (op : RotOp) (s : State) : (rotateA op s).control = s.control := by simp [rotateA]
@[simp] theorem rotateOperand_control (op : RotOp) (o : Operand8) (s : State) : (rotateOperand op o s).control = s.control := by
  simp [rotateOperand]
@[simp] theorem testBit_control (n : Fin 8) (o : Operand8) (s : State) : (testBit n o s).control = s.control := by simp [testBit]
@[simp] theorem resetBit_control (n : Fin 8) (o : Operand8) (s : State) : (resetBit n o s).control = s.control := by
  simp [resetBit]
@[simp] theorem setBit_control (n : Fin 8) (o : Operand8) (s : State) : (setBit n o s).control = s.control := by simp [setBit]
@[simp] theorem cbOperation_control (op2 : Byte) (s : State) : (cbOperation op2 s).control = s.control := by
  unfold cbOperation
  dsimp only
  split <;> simp

@[simp] theorem jumpTo_control (a : Word) (n : Nat) (s : State) : (jumpTo a n s).control = s.control := by simp [jumpTo]
@[simp] theorem callTo_control (a : Word) (n : Nat) (s : State) : (callTo a n s).control = s.control := by simp [callTo]
@[simp] theorem returnTo_control (n : Nat) (s : State) : (returnTo n s).control = s.control := by simp [returnTo, popState]
@[simp] theorem restart_control (t : Fin 8) (s : State) : (restart t s).control = s.control := by simp [restart]
@[simp] theorem jumpCond_control (cc : Cond) (a : Word) (s : State) : (jumpCond cc a s).control = s.control := by
  unfold jumpCond
  split <;> simp
@[simp] theorem jumpRelCond_control (cc : Cond) (e : Byte) (s : State) : (jumpRelCond cc e s).control = s.control := by
  unfold jumpRelCond
  split <;> simp
@[simp] theorem callCond_control (cc : Cond) (a : Word) (s : State) : (callCond cc a s).control = s.control := by
  unfold callCond
  split <;> simp
@[simp] theorem returnCond_control (cc : Cond) (s : State) : (returnCond cc s).control = s.control := by
  unfold returnCond
  split <;> simp

/-- An instruction whose meaning answers is one of the five that write control state, or keeps all of it. -/
theorem exec_control_cases {i : Instr} {s t : State} (h : exec i s = .next t) :
    i = .di ∨ i = .ei ∨ i = .reti ∨ i = .halt ∨ (∃ b, i = .stop b) ∨ t.control = s.control := by
  cases i with
  | di | ei | reti | halt | stop b => simp
  | illegal u => exact absurd h nofun
  | _ =>
    cases h
    iterate 5 right
    simp

/-- Settles O36: the five instructions that write control state one by one, and every other keeps all of it. -/
theorem onlyControlInstructionsTouchControlState : Obligations.OnlyControlInstructionsTouchControlState := by
  intro i s t h
  rcases exec_control_cases h with rfl | rfl | rfl | rfl | ⟨b, rfl⟩ | hkeeps
  · cases h; simp
  · cases h; simp
  · cases h; simp [returnFromInterrupt, popState]
  · cases h; simp
  · cases h; simp
  · obtain ⟨hime, hpending, hrun⟩ := State.control_eq_iff.mp hkeeps
    exact ⟨fun _ _ => hime, fun _ _ => hpending, fun _ _ => hrun⟩

/-! ## Reset -/

theorem target_ioPage {o : Nat} (h : o < 0x80) : target (BitVec.ofNat 16 (0xFF00 + o)) = .io (ioRegAt o) := by
  have hx : (BitVec.ofNat 16 (0xFF00 + o)).toNat = 0xFF00 + o := by
    rw [BitVec.toNat_ofNat]
    omega
  unfold target
  dsimp only
  rw [hx, if_neg (by omega), if_neg (by omega), if_neg (by omega), if_neg (by omega), if_neg (by omega), if_neg (by omega),
    if_neg (by omega), if_pos (by omega), Nat.add_sub_cancel_left]

theorem memRead_ioPage (s : State) {o : Nat} (h : o < 0x80) :
    memRead s (BitVec.ofNat 16 (0xFF00 + o)) = ioRead s (ioRegAt o) := by
  rw [memRead, target_ioPage h]

/-- The registers that do not read 00 after reset (R54). -/
def nonzeroAtReset : List IoReg := [.p1, .lcdc, .stat, .bgp]

theorem offset_of_nonzeroAtReset :
    ∀ o < 0x80, ioRegAt o ∈ nonzeroAtReset → o = 0x00 ∨ o = 0x40 ∨ o = 0x41 ∨ o = 0x47 := by decide

theorem ioRead_resetWith_eq_zero (c : Cart) {r : IoReg} (h : r ∉ nonzeroAtReset) : ioRead (State.resetWith c) r = 0 := by
  cases r with
  | p1 | lcdc | stat | bgp => exact absurd (by decide) h
  | div => exact (by decide : (0 : BitVec 16).extractLsb' 8 8 = 0)
  | _ => rfl

theorem memRead_ie (s : State) : memRead s 0xFFFF = s.ieReg := by
  have h : target 0xFFFF = .ie := by decide
  rw [memRead, h]

/-- Settles O56: the fields are those of `State.resetWith`; the I/O page is read register by register. -/
theorem resetLeavesTheSpecsValues : Obligations.ResetLeavesTheSpecsValues := by
  intro c s
  have hio {o : Nat} (ho : o < 0x80) := memRead_ioPage s ho
  have hstat : State.reset.ppu.stat = 0x06 := by decide
  have hp1 : State.reset.joy.p1 = 0xFF := by decide
  refine ⟨rfl, rfl, rfl, rfl, ?lcdc, ?bgp, ?stat, ?p1, ?zero, memRead_ie s, rfl, rfl, rfl, rfl,
    fun o => ⟨rfl, rfl, rfl, rfl, rfl⟩, rfl, rfl, rfl⟩
  case lcdc => exact hio (o := 0x40) (by decide)
  case bgp => exact hio (o := 0x47) (by decide)
  case stat => exact (hio (o := 0x41) (by decide)).trans hstat
  case p1 => exact (hio (o := 0x00) (by decide)).trans hp1
  case zero =>
    intro o ho h00 h40 h41 h47
    rw [hio ho]
    refine ioRead_resetWith_eq_zero c fun hr => ?_
    have := offset_of_nonzeroAtReset o ho hr
    omega

/-- The PPU after reset is at the start of a frame with a blank framebuffer; the cartridge does not matter. -/
theorem resetWith_scan (c : Cart) : ScanWf (State.resetWith c).ppu :=
  (⟨by decide, by decide, by decide, by decide, by decide, by decide⟩ : ScanWf State.reset.ppu)

/-- The reset state has the invariant when the image in the slot is canonical. -/
theorem resetWith_inv {c : Cart} (hrom : c.rom.wf c.romSize = true) : Inv (State.resetWith c) where
  memories := ⟨rfl, rfl, rfl, rfl, rfl, rfl, hrom⟩
  flags := show (0xB0 : Byte) &&& 0x0F = 0 by decide
  bankLo := show (1 : BitVec 5) ≠ 0 by decide
  scan := resetWith_scan c
  framebuffer := ⟨List.length_replicate, fun row h => by rw [List.eq_of_mem_replicate h, List.length_replicate]⟩
  tacc := fun h => absurd (show timerEnabled 0 = true from h) (by decide)
  frameReady := rfl

/-- A machine that construction answers is the reset state with the image in the slot. -/
theorem construct_ok {image : List Byte} {s : State} (h : construct image = .ok s) :
    ∃ c, s = State.resetWith c ∧ c.rom = Memory.ofBytes image ∧ c.romSize = image.length := by
  unfold construct at h
  split at h
  · cases h
  split at h
  · cases h
  split at h
  · cases h
  split at h
  · cases h
  · cases h
  · cases h
  · cases h
    exact ⟨_, rfl, rfl, rfl⟩

/-- Settles O58: both are reset states with a canonical image. -/
theorem resetIsWellFormed : Obligations.ResetIsWellFormed := by
  refine ⟨resetWith_inv rfl, fun image s h => ?_⟩
  obtain ⟨c, rfl, hrom, hsize⟩ := construct_ok h
  apply resetWith_inv
  rw [hrom, hsize]
  exact Memory.ofBytes_wf image

end Sys2Proof.Machine
end

section
/-! PROOFS. The address space: where each range of addresses leads, what a read through it returns and what a store through
it changes and leaves, OAM DMA, the bank controllers, and construction from an image. -/

namespace Sys2Proof.Machine

/-! ## Where each range of addresses leads (R84) -/

theorem target_of_rom {a : Word} (h : a.toNat ≤ 0x7FFF) : target a = .rom a.toNat := by
  simp only [target]
  rw [if_pos (by omega)]

theorem target_of_vram {a : Word} (h : 0x8000 ≤ a.toNat) (h' : a.toNat ≤ 0x9FFF) : target a = .vram (a.toNat - 0x8000) := by
  simp only [target]
  rw [if_neg (by omega), if_pos (by omega)]

theorem target_of_extRam {a : Word} (h : 0xA000 ≤ a.toNat) (h' : a.toNat ≤ 0xBFFF) :
    target a = .extRam (a.toNat - 0xA000) := by
  simp only [target]
  rw [if_neg (by omega), if_neg (by omega), if_pos (by omega)]

theorem target_of_wram {a : Word} (h : 0xC000 ≤ a.toNat) (h' : a.toNat ≤ 0xDFFF) : target a = .wram (a.toNat - 0xC000) := by
  simp only [target]
  rw [if_neg (by omega), if_neg (by omega), if_neg (by omega), if_pos (by omega)]

theorem target_of_echo {a : Word} (h : 0xE000 ≤ a.toNat) (h' : a.toNat ≤ 0xFDFF) : target a = .wram (a.toNat - 0xE000) := by
  simp only [target]
  rw [if_neg (by omega), if_neg (by omega), if_neg (by omega), if_neg (by omega), if_pos (by omega)]

theorem target_of_oam {a : Word} (h : 0xFE00 ≤ a.toNat) (h' : a.toNat ≤ 0xFE9F) : target a = .oam (a.toNat - 0xFE00) := by
  simp only [target]
  rw [if_neg (by omega), if_neg (by omega), if_neg (by omega), if_neg (by omega), if_neg (by omega), if_pos (by omega)]

theorem target_of_unusable {a : Word} (h : 0xFEA0 ≤ a.toNat) (h' : a.toNat ≤ 0xFEFF) : target a = .unusable := by
  simp only [target]
  rw [if_neg (by omega), if_neg (by omega), if_neg (by omega), if_neg (by omega), if_neg (by omega), if_neg (by omega),
    if_pos (by omega)]

/-- The I/O page by an address in it; `target_ioPage` says it by the offset. -/
theorem target_of_io {a : Word} (h : 0xFF00 ≤ a.toNat) (h' : a.toNat ≤ 0xFF7F) :
    target a = .io (ioRegAt (a.toNat - 0xFF00)) := by
  have ha : BitVec.ofNat 16 (0xFF00 + (a.toNat - 0xFF00)) = a := by
    rw [Nat.add_sub_cancel' h, BitVec.ofNat_toNat, BitVec.setWidth_eq]
  rw [← target_ioPage (o := a.toNat - 0xFF00) (by omega), ha]

theorem target_of_hram {a : Word} (h : 0xFF80 ≤ a.toNat) (h' : a.toNat ≤ 0xFFFE) : target a = .hram (a.toNat - 0xFF80) := by
  simp only [target]
  rw [if_neg (by omega), if_neg (by omega), if_neg (by omega), if_neg (by omega), if_neg (by omega), if_neg (by omega),
    if_neg (by omega), if_neg (by omega), if_pos (by omega)]

theorem target_of_ie {a : Word} (h : a.toNat = 0xFFFF) : target a = .ie := by
  simp only [target, h]
  decide

/-- The Echo leads to the same byte of WRAM (R91, D31). -/
theorem target_echo {a : Word} (h : 0xC000 ≤ a.toNat) (h' : a.toNat ≤ 0xDDFF) : target (a + 0x2000) = target a := by
  have ha : (a + 0x2000).toNat = a.toNat + 0x2000 := by bv_omega
  rw [target_of_wram h (by omega), target_of_echo (by omega) (by omega), ha, Nat.add_sub_add_right a.toNat 0x2000 0xC000]

theorem toNat_of_target_oam {a : Word} {o : Nat} (h : target a = .oam o) : a.toNat = 0xFE00 + o := by
  simp only [target] at h
  split_ifs at h
  have := Target.oam.inj h
  omega

theorem range_of_target_io {a : Word} {r : IoReg} (h : target a = .io r) : 0xFF00 ≤ a.toNat ∧ a.toNat < 0xFF80 := by
  simp only [target] at h
  split_ifs at h
  omega

/-! ## A read and a store by where the address leads -/

/-- What a read returns whose address leads to a target. -/
def readTarget (s : State) : Target → Byte
  | .rom x => cartRead s x
  | .vram o => s.vram.read o
  | .extRam o => extRamRead s o
  | .wram o => s.wram.read o
  | .oam o => s.oam.read o
  | .unusable => 0xFF
  | .io r => ioRead s r
  | .hram o => s.hram.read o
  | .ie => s.ieReg

/-- The state after a store whose address leads to a target. -/
def storeTarget (s : State) (x : Target) (v : Byte) : State :=
  match x with
  | .rom x => cartWrite s x v
  | .vram o => { s with vram := s.vram.write o v }
  | .extRam o => extRamWrite s o v
  | .wram o => { s with wram := s.wram.write o v }
  | .oam o => { s with oam := s.oam.write o v }
  | .unusable => s
  | .io r => ioWrite s r v
  | .hram o => { s with hram := s.hram.write o v }
  | .ie => { s with ieReg := v }

theorem memRead_eq_readTarget (s : State) (a : Word) : memRead s a = readTarget s (target a) := rfl

theorem memWrite_eq_storeTarget (s : State) (a : Word) (v : Byte) : memWrite s a v = storeTarget s (target a) v := rfl

theorem memRead_of_target {s : State} {a : Word} {x : Target} (h : target a = x) : memRead s a = readTarget s x := by
  rw [memRead_eq_readTarget, h]

theorem memWrite_of_target {s : State} {a : Word} {x : Target} {v : Byte} (h : target a = x) :
    memWrite s a v = storeTarget s x v := by
  rw [memWrite_eq_storeTarget, h]

/-- Settles O44: each range by where it leads. -/
theorem addressSpaceDispatch : Obligations.AddressSpaceDispatch :=
  ⟨fun _ _ => ⟨fun h => by rw [memRead, target_of_rom h], fun h h' => by rw [memRead, target_of_vram h h'],
    fun h h' => by rw [memRead, target_of_extRam h h'], fun h h' => by rw [memRead, target_of_wram h h'],
    fun h h' => by rw [memRead, target_of_echo h h'], fun h h' => by rw [memRead, target_of_oam h h'],
    fun h h' => by rw [memRead, target_of_unusable h h'], fun h h' => by rw [memRead, target_of_io h h'],
    fun h h' => by rw [memRead, target_of_hram h h'], fun h => by rw [memRead, target_of_ie h]⟩,
  fun _ _ _ => ⟨fun h => by rw [memWrite, target_of_rom h], fun h h' => by rw [memWrite, target_of_vram h h'],
    fun h h' => by rw [memWrite, target_of_extRam h h'], fun h h' => by rw [memWrite, target_of_wram h h'],
    fun h h' => by rw [memWrite, target_of_echo h h'], fun h h' => by rw [memWrite, target_of_oam h h'],
    fun h h' => by rw [memWrite, target_of_unusable h h'], fun h h' => by rw [memWrite, target_of_io h h'],
    fun h h' => by rw [memWrite, target_of_hram h h'], fun h => by rw [memWrite, target_of_ie h]⟩⟩

/-! ## The I/O registers (R100, R101) -/

theorem memWrite_ioPage (s : State) {o : Nat} (v : Byte) (h : o < 0x80) :
    memWrite s (BitVec.ofNat 16 (0xFF00 + o)) v = ioWrite s (ioRegAt o) v :=
  memWrite_of_target (target_ioPage h)

/-- An offset of the page that no register has is plain storage (R112). -/
theorem ioRegAt_of_plain : ∀ o < 0x80, o ∉ ([0x00, 0x04, 0x05, 0x06, 0x07, 0x0F] : List Nat) → (o < 0x40 ∨ 0x4C ≤ o) →
    ioRegAt o = .plain o := by decide

theorem Joypad.p1_eq (j : Joypad) :
    j.p1 = BitVec.ofNat 8 (192 + 32 * j.sel5.toNat + 16 * j.sel4.toNat + j.nibble.toNat) := by
  unfold Joypad.p1
  generalize j.nibble = n
  cases j.sel5 <;> cases j.sel4 <;> decide +revert

theorem divider_upper_toNat (d : BitVec 16) : (d.extractLsb' 8 8).toNat = d.toNat / 256 := hiByte_toNat d

theorem Ppu.stat_toNat (p : Ppu) : p.stat.toNat = 8 * p.statHi.toNat + 4 * p.coincidence.toNat + p.mode.bits.toNat := by
  unfold Ppu.stat
  generalize p.statHi = n
  cases p.coincidence <;> cases p.mode <;> decide +revert

theorem statHi_of_write (v : Byte) : v.extractLsb' 3 5 = BitVec.ofNat 5 (v.toNat / 8) := by
  apply BitVec.eq_of_toNat_eq
  simp [BitVec.extractLsb'_toNat, Nat.shiftRight_eq_div_pow]

/-- Settles O45: each address of the table by its offset in the page; P1, DIV and STAT in numbers by the lemmas above. -/
theorem ioRegistersAsTabled : Obligations.IoRegistersAsTabled := by
  refine ⟨fun s => ?reads, fun s v => ?writes⟩
  case reads =>
    have read (o : Nat) (ho : o < 0x80) := memRead_ioPage s ho
    have hp1 : memRead s 0xFF00 = s.joy.p1 := read 0x00 (by decide)
    have hdiv : memRead s 0xFF04 = s.timer.divider.extractLsb' 8 8 := read 0x04 (by decide)
    have hstat : memRead s 0xFF41 = s.ppu.stat := read 0x41 (by decide)
    refine ⟨hp1.trans (Joypad.p1_eq _), by rw [hdiv, divider_upper_toNat], read 0x05 (by decide), read 0x06 (by decide),
      read 0x07 (by decide), read 0x0F (by decide), read 0x40 (by decide), ?stat, read 0x42 (by decide),
      read 0x43 (by decide), read 0x44 (by decide), read 0x45 (by decide), read 0x46 (by decide), read 0x47 (by decide),
      read 0x48 (by decide), read 0x49 (by decide), read 0x4A (by decide), read 0x4B (by decide), ?plain⟩
    case stat =>
      rw [hstat, Ppu.stat_toNat]
      cases s.ppu.mode <;> rfl
    case plain =>
      intro o ho hnamed hrange
      rw [read o ho, ioRegAt_of_plain o ho hnamed hrange, ioRead]
  case writes =>
    have write (o : Nat) (ho : o < 0x80) := memWrite_ioPage s v ho
    have hstat : memWrite s 0xFF41 v = { s with ppu := { s.ppu with statHi := v.extractLsb' 3 5 } } := write 0x41 (by decide)
    refine ⟨write 0x00 (by decide), write 0x04 (by decide), write 0x05 (by decide), write 0x06 (by decide),
      write 0x07 (by decide), write 0x0F (by decide), write 0x40 (by decide), by rw [hstat, statHi_of_write],
      write 0x42 (by decide), write 0x43 (by decide), write 0x44 (by decide), write 0x45 (by decide),
      write 0x46 (by decide), write 0x47 (by decide), write 0x48 (by decide), write 0x49 (by decide),
      write 0x4A (by decide), write 0x4B (by decide), ?plain⟩
    case plain =>
      intro o ho hnamed hrange
      rw [write o ho, ioRegAt_of_plain o ho hnamed hrange, ioWrite]

/-! ## A byte that is written reads back -/

/-- A target that holds one byte: no bank controller, no external RAM, no named I/O register. -/
def Target.HoldsByte : Target → Prop
  | .vram _ | .wram _ | .oam _ | .hram _ | .ie | .io (.plain _) => True
  | _ => False

theorem readTarget_storeTarget_same {s : State} (hm : MemoriesWf s) {x : Target} (hx : x.HoldsByte) (v : Byte) :
    readTarget (storeTarget s x v) x = v := by
  cases x with
  | vram o => exact Memory.read_write_same _ v hm.vram
  | wram o => exact Memory.read_write_same _ v hm.wram
  | oam o => exact Memory.read_write_same _ v hm.oam
  | hram o => exact Memory.read_write_same _ v hm.hram
  | ie => rfl
  | io r =>
    cases r with
    | plain o => exact Memory.read_write_same _ v hm.io
    | _ => exact absurd hx id
  | rom x | extRam o | unusable => exact absurd hx id

/-- A byte that is written reads back at every address that leads to it. -/
theorem memRead_memWrite_same {s : State} (hm : MemoriesWf s) {a b : Word} (ha : (target a).HoldsByte)
    (hb : target b = target a) (v : Byte) : memRead (memWrite s a v) b = v := by
  rw [memRead_of_target hb, memWrite_eq_storeTarget, readTarget_storeTarget_same hm ha]

theorem holdsByte_wram {a : Word} (h : 0xC000 ≤ a.toNat) (h' : a.toNat ≤ 0xFDFF) : (target a).HoldsByte := by
  by_cases hw : a.toNat ≤ 0xDFFF
  · rw [target_of_wram h hw]; trivial
  · rw [target_of_echo (by omega) h']; trivial

theorem holdsByte_plain {a : Word} {o : Nat} (h : 0xFF00 ≤ a.toNat) (h' : a.toNat ≤ 0xFF7F)
    (hr : ioRegAt (a.toNat - 0xFF00) = .plain o) : (target a).HoldsByte := by
  rw [target_of_io h h', hr]; trivial

/-- Settles O46: each range leads to targets that hold a byte, and an Echo address leads where its mirror does. -/
theorem writtenMemoryReadsBack : Obligations.WrittenMemoryReadsBack := by
  intro s a v hm
  have back {b : Word} (ha : (target a).HoldsByte) (hb : target b = target a) := memRead_memWrite_same hm ha hb v
  refine ⟨fun hrange => back ?holds rfl, fun h h' => back (holdsByte_wram h (by omega)) (target_echo h h'),
    fun h h' => back (holdsByte_wram (by omega) h') ?mirror⟩
  case holds =>
    have plain (ho : a.toNat - 0xFF00 < 0x80) := ioRegAt_of_plain (a.toNat - 0xFF00) ho
    rcases hrange with ⟨h, h'⟩ | ⟨h, h'⟩ | ⟨h, h'⟩ | hio
    · by_cases hw : a.toNat ≤ 0xFDFF
      · exact holdsByte_wram h hw
      · rw [target_of_oam (by omega) h']; trivial
    · by_cases hie : a.toNat = 0xFFFF
      · rw [target_of_ie hie]; trivial
      · rw [target_of_hram h (by omega)]; trivial
    · rw [target_of_vram h h']; trivial
    · refine holdsByte_plain (by omega) (by omega) (plain (by omega) ?_ (by omega))
      simp only [List.mem_cons, List.not_mem_nil, or_false]
      omega
  case mirror =>
    have hlow : (a - 0x2000).toNat = a.toNat - 0x2000 := by bv_omega
    rw [← target_echo (a := a - 0x2000) (by omega) (by omega), BitVec.sub_add_cancel]

/-! ## A store changes no byte it does not reach -/

/-- A bank controller's write changes its registers at most. -/
theorem cartWrite_eq (s : State) (x : Nat) (v : Byte) : ∃ m : Mbc, cartWrite s x v = { s with mbc := m } := by
  unfold cartWrite
  split
  · exact ⟨s.mbc, rfl⟩
  · split_ifs <;> exact ⟨_, rfl⟩

theorem cartWrite_noMbc {s : State} (h : s.cart.kind = .noMbc) (x : Nat) (v : Byte) : cartWrite s x v = s := by
  rw [cartWrite, h]

/-- A store through the window of external RAM changes that RAM at most. -/
theorem extRamWrite_eq (s : State) (o : Nat) (v : Byte) : ∃ m : Memory, extRamWrite s o v = { s with extRam := m } := by
  unfold extRamWrite
  split
  · exact ⟨s.extRam, rfl⟩
  · exact ⟨_, rfl⟩

theorem oamDma_write_eq (s : State) (v : Byte) : ∃ m : Memory, ioWrite s .dma v = { s with dma := v, oam := m } :=
  ⟨_, oamDma_eq v { s with dma := v }⟩

/-- An I/O register reads as before after a write of another. -/
theorem ioRead_ioWrite_other (s : State) {r r' : IoReg} (v : Byte) (h : r' ≠ r) :
    ioRead (ioWrite s r v) r' = ioRead s r' := by
  cases r with
  | dma =>
    obtain ⟨m, hm⟩ := oamDma_write_eq s v
    rw [hm]
    cases r' with
    | dma => exact absurd rfl h
    | _ => rfl
  | plain o =>
    cases r' with
    | plain o' => exact Memory.read_write_other _ v fun ho => h (congrArg _ ho)
    | _ => rfl
  | _ => cases r' with
    | _ => first | rfl | exact absurd rfl h

/-- A write of DMA is seen in DMA and in OAM only. -/
theorem readTarget_dmaWrite_other (s : State) (v : Byte) {y : Target} (hdma : y ≠ .io .dma) (hoam : ∀ o, y ≠ .oam o) :
    readTarget (ioWrite s .dma v) y = readTarget s y := by
  cases y with
  | io r => exact ioRead_ioWrite_other s v fun hr => hdma (congrArg _ hr)
  | oam o => exact absurd rfl (hoam o)
  | _ =>
    obtain ⟨m, hm⟩ := oamDma_write_eq s v
    rw [hm]
    rfl

/-- External RAM reads as before through a window on another cell, or where the store is dropped. -/
theorem extRamRead_extRamWrite_other (s : State) {o o' : Nat} (v : Byte)
    (h : (extRamOffset s o).isSome = true → extRamOffset s o ≠ extRamOffset s o') :
    extRamRead (extRamWrite s o v) o' = extRamRead s o' := by
  unfold extRamWrite
  cases hk : extRamOffset s o with
  | none => rfl
  | some k =>
    rw [hk] at h
    show extRamRead { s with extRam := s.extRam.write k v } o' = extRamRead s o'
    have hoff : extRamOffset { s with extRam := s.extRam.write k v } o' = extRamOffset s o' := rfl
    unfold extRamRead
    rw [hoff]
    cases hk' : extRamOffset s o' with
    | none => rfl
    | some k' => exact Memory.read_write_other _ v fun hkk => h rfl (by rw [hk', hkk])

/-- A byte that a store does not reach reads as before (R83, R91, R109, R135 to R139). -/
theorem memRead_memWrite_other {s : State} {a b : Word} (v : Byte) (h : storeReaches s a b = false) :
    memRead (memWrite s a v) b = memRead s b := by
  rw [memRead_eq_readTarget, memRead_eq_readTarget, memWrite_eq_storeTarget]
  unfold storeReaches at h
  generalize target a = x at h ⊢
  generalize target b = y at h ⊢
  cases x with
  | rom o =>
    cases hkind : s.cart.kind with
    | noMbc => rw [storeTarget, cartWrite_noMbc hkind]
    | mbc1 =>
      obtain ⟨m, hm⟩ := cartWrite_eq s o v
      rw [storeTarget, hm]
      cases y with
      | rom | extRam => simp [hkind] at h
      | _ => rfl
  | vram o =>
    cases y with
    | vram o' => exact Memory.read_write_other _ v fun ho => by simp [ho] at h
    | _ => rfl
  | extRam o =>
    cases y with
    | extRam o' => exact extRamRead_extRamWrite_other s v (by simpa using h)
    | _ =>
      obtain ⟨m, hm⟩ := extRamWrite_eq s o v
      rw [storeTarget, hm]
      rfl
  | wram o =>
    cases y with
    | wram o' => exact Memory.read_write_other _ v fun ho => by simp [ho] at h
    | _ => rfl
  | oam o =>
    cases y with
    | oam o' => exact Memory.read_write_other _ v fun ho => by simp [ho] at h
    | _ => rfl
  | unusable => rfl
  | io r =>
    cases r with
    | ly => rfl
    | dma => exact readTarget_dmaWrite_other s v (fun hy => by simp [hy] at h) (fun o hy => by simp [hy] at h)
    | _ =>
      cases y with
      | io r' => exact ioRead_ioWrite_other s v fun hr => by simp [hr] at h
      | _ => rfl
  | hram o =>
    cases y with
    | hram o' => exact Memory.read_write_other _ v fun ho => by simp [ho] at h
    | _ => rfl
  | ie =>
    cases y with
    | ie => simp at h
    | _ => rfl

/-- A store outside the I/O page leaves the timer, the PPU, the joypad, IF and DMA alone. -/
theorem memWrite_keepsDevices {s : State} {a : Word} (v : Byte) (h : ∀ r, target a ≠ .io r) :
    (memWrite s a v).timer = s.timer ∧ (memWrite s a v).ppu = s.ppu ∧ (memWrite s a v).joy = s.joy ∧
      (memWrite s a v).ifReg = s.ifReg ∧ (memWrite s a v).dma = s.dma := by
  rw [memWrite_eq_storeTarget]
  generalize target a = x at h ⊢
  cases x with
  | io r => exact absurd rfl (h r)
  | rom o =>
    obtain ⟨m, hm⟩ := cartWrite_eq s o v
    rw [storeTarget, hm]
    exact ⟨rfl, rfl, rfl, rfl, rfl⟩
  | extRam o =>
    obtain ⟨m, hm⟩ := extRamWrite_eq s o v
    rw [storeTarget, hm]
    exact ⟨rfl, rfl, rfl, rfl, rfl⟩
  | _ => exact ⟨rfl, rfl, rfl, rfl, rfl⟩

/-- Settles O47: the bytes by what the store reaches, the devices by where its address leads, the rest as in every store. -/
theorem storeLeavesOtherBytesAlone : Obligations.StoreLeavesOtherBytesAlone := by
  intro s a b v
  refine ⟨memRead_memWrite_other v, memWrite_cpu s a v, memWrite_cart s a v, memWrite_fault s a v, memWrite_inputs s a v,
    memWrite_frames s a v, memWrite_quitRequested s a v, memWrite_ended s a v, fun ha => memWrite_keepsDevices v fun r hr => ?_⟩
  have := range_of_target_io hr
  omega

/-! ## Every instruction's stores -/

/-- A store outside the bank controller leaves MBC1's registers alone. -/
theorem memWrite_mbc {s : State} {a : Word} (v : Byte) (h : ∀ x, target a ≠ .rom x) : (memWrite s a v).mbc = s.mbc := by
  rw [memWrite_eq_storeTarget]
  generalize target a = x at h ⊢
  cases x with
  | rom o => exact absurd rfl (h o)
  | extRam o =>
    obtain ⟨m, hm⟩ := extRamWrite_eq s o v
    rw [storeTarget, hm]
  | io r =>
    cases r with
    | dma =>
      obtain ⟨m, hm⟩ := oamDma_write_eq s v
      rw [storeTarget, hm]
    | _ => rfl
  | _ => rfl

/-- The window of external RAM shows the same cells after a store that reaches no byte of it. -/
theorem extRamOffset_memWrite {s : State} {a b : Word} {o : Nat} (v : Byte) (hb : target b = .extRam o)
    (h : storeReaches s a b = false) (k : Nat) : extRamOffset (memWrite s a v) k = extRamOffset s k := by
  cases ha : target a with
  | rom x =>
    have hkind : s.cart.kind = .noMbc := by
      cases hk : s.cart.kind with
      | noMbc => rfl
      | mbc1 => simp [storeReaches, ha, hb, hk] at h
    rw [memWrite_of_target ha, storeTarget, cartWrite_noMbc hkind]
  | _ =>
    have hmbc : (memWrite s a v).mbc = s.mbc := memWrite_mbc v (by simp [ha])
    unfold extRamOffset ramBank
    rw [memWrite_cart, hmbc]

/-- A store that does not reach `b` does not change what later stores reach `b`. -/
theorem storeReaches_memWrite {s : State} {a b : Word} (v : Byte) (h : storeReaches s a b = false) (a' : Word) :
    storeReaches (memWrite s a v) a' b = storeReaches s a' b := by
  unfold storeReaches
  rw [memWrite_cart]
  cases hb : target b with
  | extRam o => simp only [extRamOffset_memWrite v hb h]
  | _ =>
    cases target a' with
    | io r => cases r <;> rfl
    | _ => rfl

/-- Settles O8: a meaning's effect is its stores, none of which reaches `b`, the second one not after the first either. -/
theorem memoryFrameOfEveryInstruction : Obligations.MemoryFrameOfEveryInstruction := by
  intro i s t b h hreach
  have heffect := exec_effect h
  generalize storedAddresses s i = l at heffect hreach
  cases heffect with
  | registers c n => rfl
  | store a v c n =>
    exact memRead_memWrite_other v (hreach a List.mem_cons_self)
  | stores a v a' v' c n =>
    have ha : storeReaches s a b = false := hreach a List.mem_cons_self
    have ha' : storeReaches (memWrite s a v) a' b = false := by
      rw [storeReaches_memWrite v ha]
      exact hreach a' (by simp)
    calc memRead (memWrite (memWrite s a v) a' v') b = memRead (memWrite s a v) b := memRead_memWrite_other v' ha'
      _ = memRead s b := memRead_memWrite_other v ha

/-! ## OAM DMA copies its page (R109) -/

/-- The address of byte `i` of page `v`. -/
theorem pageAddress_toNat (v : Byte) {i : Nat} (hi : i < 256) :
    (word16 v 0 + BitVec.ofNat 16 i).toNat = 256 * v.toNat + i := by
  have hv := v.isLt
  have hw : (word16 v 0).toNat = v.toNat * 256 + 0 := word16_toNat v 0
  rw [BitVec.toNat_add, BitVec.toNat_ofNat, hw]
  omega

theorem pageAddress_eq (v : Byte) {i : Nat} (hi : i < 256) :
    word16 v 0 + BitVec.ofNat 16 i = BitVec.ofNat 16 (256 * v.toNat + i) := by
  rw [← pageAddress_toNat v hi, BitVec.ofNat_toNat, BitVec.setWidth_eq]

/-- In OAM's own page, byte `i` of the page is byte `i` of OAM. -/
theorem pageAddress_oam {v : Byte} {i o : Nat} (hi : i < 160) (h : target (word16 v 0 + BitVec.ofNat 16 i) = .oam o) :
    o = i := by
  have ho := target_oam_lt h
  have ha := toNat_of_target_oam h
  rw [pageAddress_toNat v (by omega)] at ha
  omega

/-- A read sees OAM only at an address that leads there. -/
theorem memRead_withOam (s : State) (m : Memory) {a : Word} (h : ∀ o, target a = .oam o → m.read o = s.oam.read o) :
    memRead { s with oam := m } a = memRead s a := by
  rw [memRead_eq_readTarget, memRead_eq_readTarget]
  cases ha : target a with
  | oam o => exact h o ha
  | _ => rfl

/-- After the first `n` bytes of a copy, OAM holds those of the page before the copy, and its own bytes from there on. The
copy may read OAM itself, but only a byte it has not written yet. -/
theorem oamDma_first_bytes {v : Byte} {s : State} (hs : s.oam.wf 160 = true) {n : Nat} (hn : n ≤ 160) (i : Nat) :
    ((List.range n).foldl (oamDmaByte v) s).oam.read i =
      if i < n then memRead s (word16 v 0 + BitVec.ofNat 16 i) else s.oam.read i := by
  induction n generalizing i with
  | zero => rfl
  | succ n ih =>
    rw [List.range_succ, List.foldl_append, List.foldl_cons, List.foldl_nil]
    have hshape := oamDma_foldl v s (List.range n)
    have hwf : ((List.range n).foldl (oamDmaByte v) s).oam.wf 160 = true :=
      oamDma_foldl_wf v s _ hs fun j hj => by have := List.mem_range.mp hj; omega
    generalize (List.range n).foldl (oamDmaByte v) s = t at ih hshape hwf ⊢
    have hread : memRead t (word16 v 0 + BitVec.ofNat 16 n) = memRead s (word16 v 0 + BitVec.ofNat 16 n) := by
      rw [hshape]
      refine memRead_withOam s t.oam fun o ho => ?_
      rw [pageAddress_oam (by omega) ho, ih (by omega), if_neg (Nat.lt_irrefl n)]
    show (t.oam.write n (memRead t _)).read i = _
    rw [hread]
    rcases Nat.lt_trichotomy i n with hlt | rfl | hgt
    · rw [Memory.read_write_other _ _ (by omega), ih (by omega), if_pos hlt, if_pos (by omega)]
    · rw [Memory.read_write_same _ _ hwf, if_pos (by omega)]
    · rw [Memory.read_write_other _ _ (by omega), ih (by omega), if_neg (by omega), if_neg (by omega)]

/-- Settles O48: the write of 0xFF46 is the whole copy, with DMA written before it. -/
theorem oamDmaCopiesThePage : Obligations.OamDmaCopiesThePage := by
  intro s v hs
  have hwrite : memWrite s 0xFF46 v = oamDma v { s with dma := v } := memWrite_ioPage s (o := 0x46) v (by decide)
  rw [hwrite]
  refine ⟨fun i hi => ?_, _, oamDma_eq v { s with dma := v }, oamDma_wf v _ hs⟩
  have hcopy := oamDma_first_bytes (v := v) (s := { s with dma := v }) hs (Nat.le_refl 160) i
  rw [if_pos hi, pageAddress_eq v (by omega)] at hcopy
  exact hcopy

/-! ## The bank controllers (R135 to R139) -/

theorem cartRead_noMbc {s : State} (h : s.cart.kind = .noMbc) {x : Nat} :
    cartRead s x = if x < s.cart.romSize then s.cart.rom.read x else 0xFF := by
  have hoff : romOffset s x = x := by
    simp only [romOffset, romBankLow, romBankHigh, h]
    split_ifs <;> omega
  rw [cartRead, hoff]

theorem cartRead_mbc1 {s : State} (h : s.cart.kind = .mbc1) (x : Nat) :
    cartRead s x =
      let image (k : Nat) : Byte := if k < s.cart.romSize then s.cart.rom.read k else 0xFF
      if x < 0x4000 then image ((if s.mbc.mode then s.mbc.bankHi.toNat * 32 % s.cart.romBanks else 0) * 0x4000 + x)
      else image ((s.mbc.bankHi.toNat * 32 + s.mbc.bankLo.toNat) % s.cart.romBanks * 0x4000 + (x - 0x4000)) := by
  by_cases hx : x < 0x4000
  · simp only [cartRead, romOffset, romBankLow, h, hx, if_true]
  · simp only [cartRead, romOffset, romBankHigh, h, hx, if_false]

theorem lowNibble_eq_A_iff (v : Byte) : v &&& 0x0F#8 = 0x0A#8 ↔ v.toNat % 16 = 10 := by
  rw [← BitVec.toNat_inj, BitVec.toNat_and]
  exact iff_of_eq (congrArg (· = 10) (Nat.and_two_pow_sub_one_eq_mod v.toNat 4))

theorem bankLo_of_write (v : Byte) :
    (if v.setWidth 5 = 0 then (1 : BitVec 5) else v.setWidth 5) =
      BitVec.ofNat 5 (if v.toNat % 32 = 0 then 1 else v.toNat % 32) := by
  have hzero : v.setWidth 5 = 0 ↔ v.toNat % 32 = 0 := by
    rw [← BitVec.toNat_inj, BitVec.toNat_setWidth]
    rfl
  simp only [hzero]
  split_ifs
  · rfl
  · apply BitVec.eq_of_toNat_eq
    simp

theorem bankHi_of_write (v : Byte) : v.setWidth 2 = BitVec.ofNat 2 (v.toNat % 4) := by
  apply BitVec.eq_of_toNat_eq
  simp

theorem getLsbD_zero_eq (v : Byte) : v.getLsbD 0 = decide (v.toNat % 2 = 1) := by
  simp [BitVec.getLsbD, Nat.testBit_zero]

theorem cartWrite_mbc1 {s : State} (h : s.cart.kind = .mbc1) (x : Nat) (v : Byte) :
    cartWrite s x v = { s with mbc :=
      if x < 0x2000 then { s.mbc with ramEnable := decide (v.toNat % 16 = 10) }
      else if x < 0x4000 then { s.mbc with bankLo := BitVec.ofNat 5 (if v.toNat % 32 = 0 then 1 else v.toNat % 32) }
      else if x < 0x6000 then { s.mbc with bankHi := BitVec.ofNat 2 (v.toNat % 4) }
      else { s.mbc with mode := decide (v.toNat % 2 = 1) } } := by
  simp only [cartWrite, h, lowNibble_eq_A_iff, bankLo_of_write, bankHi_of_write, getLsbD_zero_eq]
  split_ifs <;> rfl

/-- A window on a cell of external RAM reads and writes that cell. -/
theorem extRam_of_cell {s : State} {o k : Nat} (v : Byte) (h : extRamOffset s o = some k) :
    extRamRead s o = s.extRam.read k ∧ extRamWrite s o v = { s with extRam := s.extRam.write k v } := by
  rw [extRamRead, extRamWrite, h]
  exact ⟨rfl, rfl⟩

/-- A window on no cell reads 0xFF and drops its writes. -/
theorem extRam_of_none {s : State} {o : Nat} (v : Byte) (h : extRamOffset s o = none) :
    extRamRead s o = 0xFF ∧ extRamWrite s o v = s := by
  rw [extRamRead, extRamWrite, h]
  exact ⟨rfl, rfl⟩

/-- Settles O49: kind by kind; the window of external RAM by the cell it shows, if any. -/
theorem bankControllerMapsTheCartridge : Obligations.BankControllerMapsTheCartridge := by
  intro s x o v _ _
  refine ⟨fun hk => ⟨cartRead_noMbc hk, cartWrite_noMbc hk x v, fun hram => extRam_of_cell v ?noMbc⟩,
    fun hk => ⟨cartRead_mbc1 hk x, cartWrite_mbc1 hk x v, fun hram hen => extRam_of_cell v ?mbc1⟩,
    fun hoff => extRam_of_none v ?off⟩
  case noMbc => simp [extRamOffset, hram, hk]
  case mbc1 => simp [extRamOffset, hram, hk, hen, ramBank]
  case off =>
    rcases hoff with hram | ⟨hk, hen⟩
    · simp [extRamOffset, hram]
    · simp [extRamOffset, hk, hen]

/-! ## Construction from an image (R130 to R134) -/

/-- Construction answers exactly when the length, the title, the checksum and the three codes of the header pass. -/
theorem construct_eq_ok_iff {image : List Byte} {s : State} :
    construct image = .ok s ↔
      0x150 ≤ image.length ∧ titleNotAscii image = false ∧ headerChecksum image = image.getD 0x14D 0 ∧
      ∃ kind banks ram, mbcKindOf (image.getD 0x147 0) = some kind ∧ romBanksOf (image.getD 0x148 0) = some banks ∧
        ramBytesOf (image.getD 0x149 0) = some ram ∧
        s = State.resetWith { rom := Memory.ofBytes image, romSize := image.length, kind, romBanks := banks, ramBytes := ram } := by
  constructor
  · intro h
    unfold construct at h
    split_ifs at h with hlen htitle hsum
    split at h
    · cases h
    · cases h
    · cases h
    · next kind banks ram hkind hbanks hram =>
      cases h
      exact ⟨Nat.le_of_not_lt hlen, eq_false_of_ne_true htitle, of_not_not hsum, kind, banks, ram, hkind, hbanks, hram,
        rfl⟩
  · rintro ⟨hlen, htitle, hsum, kind, banks, ram, hkind, hbanks, hram, rfl⟩
    rw [construct, if_neg (Nat.not_lt.mpr hlen), if_neg (ne_true_of_eq_false htitle), if_neg (not_not.mpr hsum), hkind,
      hbanks, hram]

/-- A field of the header, byte by byte. -/
theorem slice_eq_map {image : List Byte} {start n : Nat} (h : start + n ≤ image.length) :
    (image.drop start).take n = (List.range n).map fun k => image.getD (start + k) 0 := by
  apply List.ext_getElem
  · simp; omega
  · intro k hk _
    simp only [List.length_take, List.length_drop] at hk
    simp [List.getElem?_eq_getElem (show start + k < image.length by omega)]

theorem titleNotAscii_eq_false_iff {image : List Byte} (h : 0x150 ≤ image.length) :
    titleNotAscii image = false ↔ ∀ k, k < 16 → (image.getD (0x134 + k) 0).toNat < 128 := by
  have hbit (v : Byte) : v.getLsbD 7 = false ↔ v.toNat < 128 := by
    rw [← Bool.not_eq_true, ← BitVec.msb_eq_getLsbD_last (x := v), BitVec.msb_eq_decide]
    simp
  rw [titleNotAscii, slice_eq_map (by omega)]
  simp [List.any_eq_false, ← hbit]

/-- Subtracting the bytes of a list and one more each time is adding what is left of 512. -/
theorem foldl_checksum_toNat (l : List Byte) (x : Byte) :
    (l.foldl (fun x v => x - v - 1) x).toNat = (x.toNat + (l.map fun v => 512 - v.toNat - 1).sum) % 256 := by
  induction l generalizing x with
  | nil => exact (Nat.mod_eq_of_lt x.isLt).symm
  | cons v l ih =>
    have hv := v.isLt
    have hstep : (x - v - 1).toNat = (x.toNat + (512 - v.toNat - 1)) % 256 := by bv_omega
    rw [List.foldl_cons, ih, hstep, List.map_cons, List.sum_cons]
    omega

theorem headerChecksum_toNat {image : List Byte} (h : 0x150 ≤ image.length) :
    (headerChecksum image).toNat =
      ((List.range 25).map fun k => 512 - (image.getD (0x134 + k) 0).toNat - 1).sum % 256 := by
  rw [headerChecksum, slice_eq_map (by omega), foldl_checksum_toNat, List.map_map]
  exact congrArg (· % 256) (Nat.zero_add _)

theorem mbcKindOf_eq_mbc1_iff (t : Byte) : mbcKindOf t = some .mbc1 ↔ t.toNat ∈ ([0x01, 0x02, 0x03] : List Nat) := by
  simp only [mbcKindOf, List.mem_cons, List.not_mem_nil, or_false]
  split_ifs <;> simp only [reduceCtorEq, Option.some.injEq, true_iff, false_iff] <;> bv_omega

theorem mbcKindOf_eq_noMbc_iff (t : Byte) : mbcKindOf t = some .noMbc ↔ t.toNat ∈ ([0x00, 0x08, 0x09] : List Nat) := by
  simp only [mbcKindOf, List.mem_cons, List.not_mem_nil, or_false]
  split_ifs <;> simp only [reduceCtorEq, Option.some.injEq, true_iff, false_iff] <;> bv_omega

theorem exists_mbcKindOf_iff {t : Byte} :
    (∃ kind, mbcKindOf t = some kind) ↔ t.toNat ∈ ([0x00, 0x01, 0x02, 0x03, 0x08, 0x09] : List Nat) := by
  constructor
  · rintro ⟨_ | _, hkind⟩
    · have := (mbcKindOf_eq_noMbc_iff t).mp hkind
      grind
    · have := (mbcKindOf_eq_mbc1_iff t).mp hkind
      grind
  · intro ht
    by_cases h1 : t.toNat ∈ ([0x01, 0x02, 0x03] : List Nat)
    · exact ⟨_, (mbcKindOf_eq_mbc1_iff t).mpr h1⟩
    · exact ⟨_, (mbcKindOf_eq_noMbc_iff t).mpr (by grind)⟩

theorem romBanksOf_eq_some_iff (n : Byte) (banks : Nat) :
    romBanksOf n = some banks ↔ n.toNat ≤ 8 ∧ banks = 2 * 2 ^ n.toNat := by
  simp [romBanksOf, eq_comm]

theorem ramBytesOf_eq_some_iff (n : Byte) (ram : Nat) :
    ramBytesOf n = some ram ↔ n.toNat ≤ 3 ∧ ram = ([0, 2048, 8192, 32768] : List Nat).getD n.toNat 0 := by
  unfold ramBytesOf
  rcases n.toNat with _ | _ | _ | _ | m <;> simp [eq_comm]

/-- The array of an image reads as the image, with another byte past its end. -/
theorem ite_read_ofBytes (image : List Byte) (k : Nat) (past : Byte) :
    (if k < image.length then (Memory.ofBytes image).read k else past) = image.getD k past := by
  split_ifs with hk
  · rw [Memory.read_ofBytes, List.getD_eq_getElem _ _ hk, List.getD_eq_getElem _ _ hk]
  · rw [List.getD_eq_default _ _ (Nat.le_of_not_lt hk)]

/-- Settles O57: the tests of `construct` are those of the statement, each by its lemma. -/
theorem constructionChecksTheHeader : Obligations.ConstructionChecksTheHeader := by
  intro image at_ checksum valid
  refine ⟨fun hinvalid => ?invalid, fun hvalid => ?valid⟩
  case invalid =>
    cases h : construct image with
    | error r => exact ⟨r, rfl⟩
    | ok s =>
      obtain ⟨hlen, htitle, hsum, kind, banks, ram, hkind, hbanks, hram, _⟩ := construct_eq_ok_iff.mp h
      refine absurd ⟨hlen, (titleNotAscii_eq_false_iff hlen).mp htitle, ?_, ?_,
        ((romBanksOf_eq_some_iff _ _).mp hbanks).1, ((ramBytesOf_eq_some_iff _ _).mp hram).1⟩ hinvalid
      · exact (headerChecksum_toNat hlen).symm.trans (congrArg BitVec.toNat hsum)
      · exact exists_mbcKindOf_iff.mp ⟨kind, hkind⟩
  case valid =>
    obtain ⟨hlen, htitle, hsum, htype, hbanks, hram⟩ := hvalid
    obtain ⟨kind, hkind⟩ : ∃ kind, mbcKindOf (image.getD 0x147 0) = some kind :=
      exists_mbcKindOf_iff.mpr htype
    refine ⟨_, construct_eq_ok_iff.mpr ⟨hlen, (titleNotAscii_eq_false_iff hlen).mpr htitle,
      BitVec.eq_of_toNat_eq ((headerChecksum_toNat hlen).trans hsum), kind, _, _, hkind,
      (romBanksOf_eq_some_iff _ _).mpr ⟨hbanks, rfl⟩, (ramBytesOf_eq_some_iff _ _).mpr ⟨hram, rfl⟩, rfl⟩,
      rfl, rfl, fun k _ => Memory.read_ofBytes image k, ?_, rfl, rfl, fun hnoMbc a ha => ?_⟩
    · rw [← mbcKindOf_eq_mbc1_iff, hkind]
      exact (Option.some_inj).symm
    · rw [memRead, target_of_rom (by omega)]
      exact (cartRead_noMbc hnoMbc).trans (ite_read_ofBytes image a.toNat 0xFF)

end Sys2Proof.Machine
end

section
/-! PROOFS. The encoding: what the decoder reads is spelled by the bytes it read, the decoder and the encoder are inverse,
the lengths, and the undefined opcodes. -/

namespace Sys2Proof.Machine

/-! ## The blocks of the base opcodes (R162) -/

/-- The byte whose fields are x (bits 7 and 6), y (bits 5 to 3) and z (bits 2 to 0). -/
def fieldByte (x : Fin 4) (y z : Fin 8) : Byte := BitVec.ofNat 8 (x * 64 + y * 8 + z)

theorem fieldByte_toNat (x : Fin 4) (y z : Fin 8) : (fieldByte x y z).toNat = x * 64 + y * 8 + z := by
  rw [fieldByte, BitVec.toNat_ofNat]
  omega

theorem exists_eq_fieldByte (b : Byte) : ∃ x y z, b = fieldByte x y z := by
  have hb := b.isLt
  refine ⟨⟨b.toNat / 64, by omega⟩, ⟨b.toNat / 8 % 8, by omega⟩, ⟨b.toNat % 8, by omega⟩, BitVec.eq_of_toNat_eq ?_⟩
  simp only [fieldByte_toNat]
  omega

/-- Each value of x is a block of its own. -/
theorem decode3_fieldByte (y z : Fin 8) (b1 b2 : Byte) :
    decode3 (fieldByte 0 y z) b1 b2 = decodeX0 y z b1 (word16 b2 b1) ∧
    decode3 (fieldByte 1 y z) b1 b2 = decodeX1 y z ∧
    decode3 (fieldByte 2 y z) b1 b2 = decodeX2 y z ∧
    decode3 (fieldByte 3 y z) b1 b2 = decodeX3 y z b1 (word16 b2 b1) := by
  have hx (x : Fin 4) : (fieldByte x y z).toNat / 64 = x := by rw [fieldByte_toNat]; omega
  have hy (x : Fin 4) : (fieldByte x y z).toNat / 8 % 8 = y := by rw [fieldByte_toNat]; omega
  have hz (x : Fin 4) : (fieldByte x y z).toNat % 8 = z := by rw [fieldByte_toNat]; omega
  simp [decode3, hx, hy, hz]

theorem instrLength_bounds (b0 : Byte) : 1 ≤ instrLength b0 ∧ instrLength b0 ≤ 3 := by
  unfold instrLength
  split
  · simp
  · split <;> simp

theorem instrLength_block1_block2 :
    ∀ y z : Fin 8, instrLength (fieldByte 1 y z) = 1 ∧ instrLength (fieldByte 2 y z) = 1 := by decide

/-! ## What the decoder reads is spelled by the bytes it read -/

/-- The term is an instruction and the bytes are its encoding. -/
abbrev IsSpelled (i : Instr) (bytes : List Byte) : Prop := i.WellFormed ∧ encode i = bytes

theorem isSpelled_decodeCb : ∀ op2 : Byte, IsSpelled (decodeCb op2) [0xCB, op2] := by decide +kernel

theorem isSpelled_decodeX0 (y z : Fin 8) (nn : Word) :
    IsSpelled (decodeX0 y z (loByte nn) nn)
      ([fieldByte 0 y z, loByte nn, hiByte nn].take (instrLength (fieldByte 0 y z))) := by
  fin_cases z <;> fin_cases y <;> exact ⟨rfl, rfl⟩

theorem isSpelled_decodeX1 : ∀ y z : Fin 8, IsSpelled (decodeX1 y z) [fieldByte 1 y z] := by decide

theorem isSpelled_decodeX2 : ∀ y z : Fin 8, IsSpelled (decodeX2 y z) [fieldByte 2 y z] := by decide

/-- The prefix 0xCB, at y = 1 and z = 3, is spelled with its second byte; every other opcode by its own row of the grid. -/
theorem isSpelled_decodeX3 (y z : Fin 8) (nn : Word) :
    IsSpelled (decodeX3 y z (loByte nn) nn)
      ([fieldByte 3 y z, loByte nn, hiByte nn].take (instrLength (fieldByte 3 y z))) := by
  match z with
  | 3 =>
    match y with
    | 1 => exact isSpelled_decodeCb (loByte nn)
    | 0 | 2 | 3 | 4 | 5 | 6 | 7 => exact ⟨rfl, rfl⟩
  | 0 | 1 | 2 | 4 | 5 | 6 | 7 => fin_cases y <;> exact ⟨rfl, rfl⟩

/-- Whatever the decoder reads from three bytes is spelled by as many of them as R165 says. -/
theorem isSpelled_decode3 (b0 b1 b2 : Byte) :
    IsSpelled (decode3 b0 b1 b2) ([b0, b1, b2].take (instrLength b0)) := by
  obtain ⟨nn, rfl, rfl⟩ : ∃ nn, b1 = loByte nn ∧ b2 = hiByte nn := ⟨word16 b2 b1, by simp, by simp⟩
  obtain ⟨x, y, z, rfl⟩ := exists_eq_fieldByte b0
  obtain ⟨h0, h1, h2, h3⟩ := decode3_fieldByte y z (loByte nn) (hiByte nn)
  obtain ⟨hlen1, hlen2⟩ := instrLength_block1_block2 y z
  match x with
  | 0 => simpa only [h0, word16_hi_lo] using isSpelled_decodeX0 y z nn
  | 1 => simpa [h1, hlen1] using isSpelled_decodeX1 y z
  | 2 => simpa [h2, hlen2] using isSpelled_decodeX2 y z
  | 3 => simpa only [h3, word16_hi_lo] using isSpelled_decodeX3 y z nn

/-! ## The front of a byte list -/

/-- The instruction at the front of a byte list, bytes past its end being read as 0. -/
def frontInstr (bytes : List Byte) : Instr := decode3 (bytes.getD 0 0) (bytes.getD 1 0) (bytes.getD 2 0)

theorem frontInstr_cons (b0 : Byte) (tail : List Byte) :
    frontInstr (b0 :: tail) = decode3 b0 (tail.getD 0 0) (tail.getD 1 0) := rfl

/-- The length that the first byte of a list gives (R160). -/
def frontLength (bytes : List Byte) : Nat := instrLength (bytes.getD 0 0)

/-- A list decodes exactly when it holds the length its first byte gives: to its front, leaving the rest. -/
theorem decode_eq_ok_iff {bytes rest : List Byte} {i : Instr} :
    decode bytes = .ok (i, rest) ↔
      frontLength bytes ≤ bytes.length ∧ frontInstr bytes = i ∧ bytes.drop (frontLength bytes) = rest := by
  cases bytes with
  | nil =>
    have hpos : instrLength 0#8 ≠ 0 := by decide
    simp [decode, frontLength, hpos]
  | cons b0 tail =>
    have hdrop : (b0 :: tail).drop (instrLength b0) = tail.drop (instrLength b0 - 1) :=
      List.drop_cons (instrLength_bounds b0).1
    rw [frontLength, List.getD_cons_zero, hdrop, frontInstr_cons, List.length_cons, decode]
    split
    · next h => simp [Nat.not_le.mpr h]
    · next h => simp [Nat.le_of_not_lt h]

theorem length_encode_frontInstr (bytes : List Byte) : (encode (frontInstr bytes)).length = frontLength bytes := by
  rw [frontInstr, (isSpelled_decode3 _ _ _).2, List.length_take]
  exact Nat.min_eq_left (instrLength_bounds _).2

theorem take_three_getD {bytes : List Byte} {n : Nat} (h3 : n ≤ 3) (h : n ≤ bytes.length) :
    [bytes.getD 0 0, bytes.getD 1 0, bytes.getD 2 0].take n = bytes.take n := by
  apply List.ext_getElem
  · simp
    omega
  · intro k hk hk'
    have hk3 : k < 3 := hk.trans_le (List.length_take_le' _ _)
    rw [List.getElem_take, List.getElem_take, ← List.getD_eq_getElem bytes 0]
    interval_cases k <;> rfl

theorem isSpelled_frontInstr {bytes : List Byte} (h : frontLength bytes ≤ bytes.length) :
    IsSpelled (frontInstr bytes) (bytes.take (frontLength bytes)) := by
  have htake := take_three_getD (n := frontLength bytes) (instrLength_bounds _).2 h
  exact htake ▸ isSpelled_decode3 _ _ _

/-! ## Decoding and encoding are inverse -/

/-- Instruction by instruction; an operand word is put together again from its two bytes (R164). -/
theorem frontInstr_encode {i : Instr} (h : i.WellFormed) : frontInstr (encode i) = i := by
  cases i with
  | prefix_cb op2 => exact absurd h nofun
  | illegal u => cases u <;> rfl
  | ld_bc_nn nn | ld_atNN_sp nn | ld_de_nn nn | ld_hl_nn nn | ld_sp_nn nn | jp_nz_nn nn | jp_nn nn | call_nz_nn nn
  | jp_z_nn nn | call_z_nn nn | call_nn nn | jp_nc_nn nn | call_nc_nn nn | jp_c_nn nn | call_c_nn nn | ld_atNN_a nn
  | ld_a_atNN nn =>
    refine (frontInstr_cons _ _).trans ?_
    change decode3 _ (loByte nn) (hiByte nn) = _
    unfold decode3
    rw [word16_hi_lo]
    rfl
  | _ => exact (frontInstr_cons _ _).trans rfl

theorem encode_injective {i j : Instr} (hi : i.WellFormed) (hj : j.WellFormed) (h : encode i = encode j) : i = j := by
  rw [← frontInstr_encode hi, h, frontInstr_encode hj]

/-- An encoding is as long as its first byte says, whatever follows it. -/
theorem frontLength_encode_append {i : Instr} (h : i.WellFormed) (rest : List Byte) :
    frontLength (encode i ++ rest) = (encode i).length := by
  have hlength : (encode i).length = frontLength (encode i) := by
    rw [← length_encode_frontInstr, frontInstr_encode h]
  have hpos : 0 < (encode i).length := hlength ▸ (instrLength_bounds _).1
  rw [hlength, frontLength, List.getD_append _ _ _ _ hpos, frontLength]

/-- Settles O2: the front of the bytes is spelled by the encoding, and only one instruction is. -/
theorem decodeOfEncodeIsTheInstruction : Obligations.DecodeOfEncodeIsTheInstruction := by
  intro i rest h
  have hlength := frontLength_encode_append h rest
  have hle : frontLength (encode i ++ rest) ≤ (encode i ++ rest).length := by simp [hlength]
  obtain ⟨hwf, hencode⟩ := isSpelled_frontInstr hle
  rw [hlength, List.take_left] at hencode
  exact decode_eq_ok_iff.mpr ⟨hle, encode_injective hwf h hencode, by rw [hlength, List.drop_left]⟩

/-- Settles O3: the instruction is spelled by the bytes taken, and the bytes left over are the rest of the list. -/
theorem encodeOfDecodeIsTheBytes : Obligations.EncodeOfDecodeIsTheBytes := by
  intro bytes rest i h
  obtain ⟨hlen, rfl, rfl⟩ := decode_eq_ok_iff.mp h
  obtain ⟨hwf, hencode⟩ := isSpelled_frontInstr hlen
  exact ⟨hwf, by rw [hencode, List.take_append_drop]⟩

/-! ## Lengths -/

theorem opcodesOfLength3_eq_map :
    opcodesOfLength3 = List.map BitVec.toNat
      ([0x01, 0x11, 0x21, 0x31, 0x08, 0xC2, 0xC3, 0xC4, 0xCA, 0xCC, 0xCD, 0xD2, 0xD4, 0xDA, 0xDC, 0xEA, 0xFA] :
        List Byte) := rfl

theorem opcodesOfLength2_eq_map :
    opcodesOfLength2 = List.map BitVec.toNat
      ([0x06, 0x0E, 0x16, 0x1E, 0x26, 0x2E, 0x36, 0x3E, 0x10, 0x18, 0x20, 0x28, 0x30, 0x38, 0xC6, 0xCE, 0xD6,
        0xDE, 0xE6, 0xEE, 0xF6, 0xFE, 0xE0, 0xF0, 0xE8, 0xF8, 0xCB] : List Byte) := rfl

/-- Settles O4: the bytes taken are the length of the front, and `instrLength` tests the two lists as numbers. -/
theorem lengthIsGivenByTheOpcodeByte : Obligations.LengthIsGivenByTheOpcodeByte := by
  intro b0 tail rest i h _
  obtain ⟨hlen, -, rfl⟩ := decode_eq_ok_iff.mp h
  have htaken : tail.length + 1 = ((b0 :: tail).drop (frontLength (b0 :: tail))).length + instrLength b0 := by
    rw [List.length_drop]
    exact (Nat.sub_add_cancel hlen).symm
  simpa only [instrLength, opcodesOfLength3_eq_map, opcodesOfLength2_eq_map,
    List.mem_map_of_injective (BitVec.toNat_injective (n := 8))] using htaken

/-! ## The undefined opcodes -/

theorem head?_encode_decode3 (b0 b1 b2 : Byte) : (encode (decode3 b0 b1 b2)).head? = some b0 := by
  have hpos := (instrLength_bounds b0).1
  rw [(isSpelled_decode3 b0 b1 b2).2, List.head?_take, if_neg (by omega), List.head?_cons]

/-- An undefined opcode decodes to itself, and no other byte does. -/
theorem decode3_eq_illegal_iff {b0 b1 b2 : Byte} {u : UndefinedOpcode} :
    decode3 b0 b1 b2 = .illegal u ↔ b0 = u.toByte := by
  constructor
  · intro h
    have hhead := head?_encode_decode3 b0 b1 b2
    rw [h] at hhead
    exact (Option.some.inj hhead).symm
  · rintro rfl
    cases u <;> rfl

/-- The bytes R172 lists are those of the eleven undefined opcodes. -/
theorem exists_eq_toByte_iff (b : Byte) :
    (∃ u : UndefinedOpcode, b = u.toByte) ↔
      b ∈ ([0xD3, 0xDB, 0xDD, 0xE3, 0xE4, 0xEB, 0xEC, 0xED, 0xF4, 0xFC, 0xFD] : List Byte) := by
  constructor
  · rintro ⟨u, rfl⟩
    cases u <;> decide
  · intro h
    fin_cases h
    exacts [⟨.opD3, rfl⟩, ⟨.opDB, rfl⟩, ⟨.opDD, rfl⟩, ⟨.opE3, rfl⟩, ⟨.opE4, rfl⟩, ⟨.opEB, rfl⟩, ⟨.opEC, rfl⟩,
      ⟨.opED, rfl⟩, ⟨.opF4, rfl⟩, ⟨.opFC, rfl⟩, ⟨.opFD, rfl⟩]

/-- Every meaning but that of an undefined opcode answers a next state. -/
theorem exists_exec_eq_next {i : Instr} (h : ∀ u, i ≠ .illegal u) (s : State) : ∃ t, exec i s = .next t := by
  cases i with
  | illegal u => exact absurd rfl (h u)
  | _ => exact ⟨_, rfl⟩

/-- Settles O7: the bytes by the encoder, the fault by the meaning of `illegal`, and every other meaning answers. -/
theorem onlyTheElevenUndefinedOpcodesFault : Obligations.OnlyTheElevenUndefinedOpcodesFault := by
  refine ⟨fun b0 b1 b2 => ?bytes, fun u b0 b1 b2 s h => ?fault, fun i s f h => ?noOther⟩
  case bytes => simp only [decode3_eq_illegal_iff, exists_eq_toByte_iff]
  case fault =>
    obtain rfl := decode3_eq_illegal_iff.mp h
    rfl
  case noOther =>
    by_contra hdefined
    obtain ⟨t, ht⟩ := exists_exec_eq_next (not_exists.mp hdefined) s
    exact absurd (ht.symm.trans h) nofun

end Sys2Proof.Machine
end

section
/-! PROOFS. The 8-bit loads (spec/40_load8.md R200 to R218): how each is encoded, the state it answers, and the example words
of the spec. A store answers the stored state with the CPU put back as it was. -/

namespace Sys2Proof.Machine

/-! ## An encoding decodes to its instruction alone -/

/-- Decoding undoes encoding, also with no byte after it. -/
theorem encodedAs_of_encode_eq {i : Instr} {bytes : List Byte} (hwf : i.WellFormed) (h : encode i = bytes) :
    EncodedAs i bytes := by
  refine ⟨h, ?_⟩
  rw [← h]
  simpa only [List.append_nil] using decodeOfEncodeIsTheInstruction i [] hwf

/-! ## The states the shared operations answer -/

/-- A store leaves the CPU alone, so putting it back changes nothing. -/
theorem withCycles_memWrite (s : State) (a : Word) (v : Byte) (n : Nat) :
    (memWrite s a v).withCycles n = { memWrite s a v with cpu := s.cpu, cycles := n } := by
  rw [State.withCycles, memWrite_cpu]

/-- The answer of a store of A. -/
theorem storeA_eq (a : Word) (n : Nat) (s : State) :
    storeA a n s = { memWrite s a s.cpu.a with cpu := s.cpu, cycles := n } := withCycles_memWrite ..

/-- The store comes first, and HL moves from what it was before it. -/
theorem thenMoveHL_storeA (delta a : Word) (n : Nat) (s : State) :
    thenMoveHL delta (storeA a n s) = { memWrite s a s.cpu.a with
      cpu := { s.cpu with h := hiByte (s.hl + delta), l := loByte (s.hl + delta) }, cycles := n } := by
  rw [storeA_eq]
  rfl

/-- The byte joined to 0xFF is its offset from 0xFF00: no carry leaves the low byte. -/
theorem highPage_eq_add (n : Byte) : highPage n = 0xFF00 + n.setWidth 16 := by
  apply BitVec.eq_of_toNat_eq
  simp only [highPage, word16_toNat, BitVec.toNat_add, BitVec.toNat_setWidth, BitVec.reduceToNat]
  omega

/-! ## LD r,r', LD r,n, LD r,(HL), LD (HL),r and LD (HL),n -/

theorem ldRegReg_encodedAs (dst src : Reg8) :
    EncodedAs (.ldRegReg dst src) [opByte (0x40 + 8 * dst.code + src.code)] := by
  cases dst <;> cases src <;> exact encodedAs_of_encode_eq rfl rfl

theorem ldRegImm_encodedAs (dst : Reg8) (n : Byte) : EncodedAs (.ldRegImm dst n) [opByte (0x06 + 8 * dst.code), n] := by
  cases dst <;> exact encodedAs_of_encode_eq rfl rfl

theorem ldRegAtHL_encodedAs (dst : Reg8) : EncodedAs (.ldRegAtHL dst) [opByte (0x46 + 8 * dst.code)] := by
  cases dst <;> exact encodedAs_of_encode_eq rfl rfl

theorem ldAtHLReg_encodedAs (src : Reg8) : EncodedAs (.ldAtHLReg src) [opByte (0x70 + src.code)] := by
  cases src <;> exact encodedAs_of_encode_eq rfl rfl

theorem exec_ldRegReg (dst src : Reg8) (s : State) : exec (.ldRegReg dst src) s = .next (loadReg dst src s) := by
  cases dst <;> cases src <;> rfl

theorem exec_ldRegImm (dst : Reg8) (n : Byte) (s : State) : exec (.ldRegImm dst n) s = .next (loadImm dst n s) := by
  cases dst <;> rfl

theorem exec_ldRegAtHL (dst : Reg8) (s : State) : exec (.ldRegAtHL dst) s = .next (loadFromHL dst s) := by
  cases dst <;> rfl

theorem exec_ldAtHLReg (src : Reg8) (s : State) : exec (.ldAtHLReg src) s = .next (storeToHL src s) := by
  cases src <;> rfl

/-- Settles O11: each form is its shared operation on every register, and a store leaves the CPU alone. -/
theorem loadRegisterAndStoreAtHL : Obligations.LoadRegisterAndStoreAtHL := by
  refine ⟨fun dst src s => ⟨ldRegReg_encodedAs dst src, exec_ldRegReg dst src s⟩,
    fun dst n s => ⟨ldRegImm_encodedAs dst n, exec_ldRegImm dst n s⟩,
    fun dst s => ⟨ldRegAtHL_encodedAs dst, exec_ldRegAtHL dst s⟩,
    fun src s => ⟨ldAtHLReg_encodedAs src, ?storeReg⟩,
    fun n s => ⟨encodedAs_of_encode_eq rfl rfl, ?storeImm⟩⟩
  case storeReg => exact (exec_ldAtHLReg src s).trans (congrArg Host.Outcome.next (withCycles_memWrite ..))
  case storeImm => exact congrArg Host.Outcome.next (withCycles_memWrite ..)

/-! ## Loads and stores of A -/

/-- Settles O12: the addresses are those of the meanings, and a store leaves the CPU alone. -/
theorem loadAndStoreA : Obligations.LoadAndStoreA := by
  unfold Obligations.LoadAndStoreA
  simp only [← highPage_eq_add]
  refine ⟨fun s n nn => ⟨?_, ?_, ?_, ?_, ?_, ?loads⟩, fun s n nn => ⟨?_, ?_, ?_, ?_, ?_, ?stores⟩⟩
  case loads => exact ⟨rfl, rfl, rfl, rfl, rfl⟩
  case stores =>
    exact ⟨congrArg Host.Outcome.next (storeA_eq s.bc 8 s), congrArg Host.Outcome.next (storeA_eq s.de 8 s),
      congrArg Host.Outcome.next (storeA_eq nn 16 s), congrArg Host.Outcome.next (storeA_eq (highPage n) 12 s),
      congrArg Host.Outcome.next (storeA_eq (highPage s.cpu.c) 8 s)⟩
  all_goals exact encodedAs_of_encode_eq rfl rfl

/-! ## Loads and stores that move HL -/

/-- Settles O13: the access is at the old HL, and one less is the sum with -1. -/
theorem loadAndStoreMovingHL : Obligations.LoadAndStoreMovingHL := by
  intro s
  have hdec : s.hl - 1 = s.hl + -1 := BitVec.sub_eq_add_neg _ _
  rw [hdec]
  refine ⟨?_, ?_, ?_, ?_, ?storeInc, ?loadInc, ?storeDec, ?loadDec⟩
  case storeInc => exact congrArg Host.Outcome.next (thenMoveHL_storeA 1 s.hl 8 s)
  case storeDec => exact congrArg Host.Outcome.next (thenMoveHL_storeA (-1) s.hl 8 s)
  case loadInc | loadDec => rfl
  all_goals exact encodedAs_of_encode_eq rfl rfl

/-! ## The example words -/

/-- Settles O1: the decoder evaluated at each word. -/
theorem decodesTheSpecsExampleWords : Obligations.DecodesTheSpecsExampleWords :=
  ⟨rfl, rfl, rfl, rfl, rfl, rfl, rfl, rfl, rfl, rfl, rfl, rfl, rfl, rfl, rfl, rfl, rfl, rfl⟩

end Sys2Proof.Machine
end

section
/-! PROOFS. The 16-bit loads, PUSH and POP (spec/41_load16.md R240 to R246) with ADD SP,e (spec/43_alu16.md R313): how each
is encoded and the state it answers. -/

namespace Sys2Proof.Machine

/-! ## LD rr,nn and LD (nn),SP -/

theorem ldPairImm_encodedAs (p : Reg16) (nn : Word) :
    EncodedAs (.ldPairImm p nn) [opByte (0x01 + 16 * p.code), loByte nn, hiByte nn] := by
  cases p <;> exact encodedAs_of_encode_eq rfl rfl

theorem exec_ldPairImm (p : Reg16) (nn : Word) (s : State) : exec (.ldPairImm p nn) s = .next (loadPair p nn s) := by
  cases p <;> rfl

/-- Both stores leave the CPU alone. -/
theorem storeSP_eq (nn : Word) (s : State) :
    storeSP nn s =
      { memWrite (memWrite s nn (loByte s.cpu.sp)) (nn + 1) (hiByte s.cpu.sp) with cpu := s.cpu, cycles := 20 } := by
  rw [storeSP, withCycles_memWrite, memWrite_cpu]

/-- Settles O14: each pair is written by the shared operation, and the two stores of SP leave the CPU alone. -/
theorem loadPairAndStoreStackPointer : Obligations.LoadPairAndStoreStackPointer :=
  ⟨fun p nn s => ⟨ldPairImm_encodedAs p nn, exec_ldPairImm p nn s⟩,
    fun _ => ⟨encodedAs_of_encode_eq rfl rfl, rfl⟩,
    fun nn s => ⟨encodedAs_of_encode_eq rfl rfl, congrArg Host.Outcome.next (storeSP_eq nn s)⟩⟩

/-! ## LD HL,SP+e and ADD SP,e -/

theorem addSpFlags_and_F0 (sp : Word) (e : Byte) : addSpFlags sp e &&& 0xF0 = addSpFlags sp e := packFlags_and_F0 ..

theorem loadHLFromSP_eq (e : Byte) (s : State) :
    loadHLFromSP e s = { s with
      cpu := { s.cpu with h := hiByte (s.cpu.sp + sext16 e), l := loByte (s.cpu.sp + sext16 e), f := addSpFlags s.cpu.sp e },
      cycles := 12 } := by
  rw [loadHLFromSP, State.setF, addSpFlags_and_F0]
  rfl

theorem addSP_eq (e : Byte) (s : State) :
    addSP e s = { s with
      cpu := { s.cpu with sp := s.cpu.sp + sext16 e, f := addSpFlags s.cpu.sp e }, cycles := 16 } := by
  rw [addSP, State.setF, addSpFlags_and_F0]
  rfl

/-- Settles O15: the flags are `addSpFlags`, which the mask of F leaves alone, and `sext16` is the byte's signed number. -/
theorem addDisplacementToSP : Obligations.AddDisplacementToSP := by
  intro e s sum f
  have hf : addSpFlags s.cpu.sp e = f := addSpFlags_eq s.cpu.sp e
  rw [← hf]
  exact ⟨encodedAs_of_encode_eq rfl rfl, encodedAs_of_encode_eq rfl rfl,
    congrArg Host.Outcome.next (loadHLFromSP_eq e s), congrArg Host.Outcome.next (addSP_eq e s)⟩

/-! ## PUSH and POP -/

theorem push_encodedAs (p : StkPair) : EncodedAs (.push p) [opByte (0xC5 + 16 * p.code)] := by
  cases p <;> exact encodedAs_of_encode_eq rfl rfl

theorem pop_encodedAs (p : StkPair) : EncodedAs (.pop p) [opByte (0xC1 + 16 * p.code)] := by
  cases p <;> exact encodedAs_of_encode_eq rfl rfl

theorem exec_push (p : StkPair) (s : State) : exec (.push p) s = .next (pushPair p s) := by
  cases p <;> rfl

/-- The two stores leave the CPU alone, so a push changes SP only and PC stays. -/
theorem push16_withCycles (s : State) (v : Word) (n : Nat) :
    (push16 s v).withCycles n = afterPush s v s.cpu.pc n := by
  rw [push16_eq, State.setSP, memWrite_cpu, memWrite_cpu]
  rfl

theorem exec_push_eq_afterPush (p : StkPair) (s : State) :
    exec (.push p) s = .next (afterPush s (s.stkPair p) s.cpu.pc 16) :=
  (exec_push p s).trans (congrArg Host.Outcome.next (push16_withCycles s (s.stkPair p) 16))

theorem hiByte_popValue (s : State) : hiByte (popValue s) = memRead s (s.cpu.sp + 1) := hiByte_word16 ..

theorem loByte_popValue (s : State) : loByte (popValue s) = memRead s s.cpu.sp := loByte_word16 ..

/-- Settles O16: a push is two stores that leave the CPU alone, and a pop writes the halves of the word it read. -/
theorem pushAndPop : Obligations.PushAndPop := by
  refine ⟨fun p s => ⟨push_encodedAs p, exec_push_eq_afterPush p s⟩, ?_⟩
  intro s hi lo
  have hhi : hiByte (popValue s) = hi := hiByte_popValue s
  have hlo : loByte (popValue s) = lo := loByte_popValue s
  rw [← hhi, ← hlo]
  exact ⟨pop_encodedAs, rfl, rfl, rfl, rfl⟩

end Sys2Proof.Machine
end

section
/-! PROOFS. 8-bit arithmetic and logic (spec/42_alu8.md R260 to R295): how each instruction is encoded, the state it answers,
and that DAA corrects the sum and the difference of two packed decimal numbers. -/

namespace Sys2Proof.Machine

/-! ## F written whole -/

theorem flags_and_F0 (x : AluResult) : x.flags &&& 0xF0 = x.flags := packFlags_and_F0 ..

/-- The mask of F leaves a result's flags alone, so A and F are as given. -/
theorem setA_setF_flags (s : State) (a : Byte) (x : AluResult) (k : Nat) :
    ((s.setA a).setF x.flags).withCycles k = withAF s a x.flags k := by
  rw [State.setF, flags_and_F0]
  rfl

theorem setA_setF_packFlags (s : State) (a : Byte) (z n h c : Bool) (k : Nat) :
    ((s.setA a).setF (packFlags z n h c)).withCycles k = withAF s a (flagByte z n h c) k := by
  rw [← packFlags_eq]
  exact setA_setF_flags s a ⟨a, z, n, h, c⟩ k

theorem setF_packFlags (s : State) (z n h c : Bool) (k : Nat) :
    (s.setF (packFlags z n h c)).withCycles k = withAF s s.cpu.a (flagByte z n h c) k :=
  setA_setF_packFlags s s.cpu.a z n h c k

/-! ## The arithmetic and logic block -/

theorem aluReg_encodedAs (op : AluOp) (r : Reg8) : EncodedAs (.aluReg op r) [opByte (0x80 + 8 * op.code + r.code)] := by
  cases op <;> cases r <;> exact encodedAs_of_encode_eq rfl rfl

theorem aluAtHL_encodedAs (op : AluOp) : EncodedAs (.aluAtHL op) [opByte (0x80 + 8 * op.code + 6)] := by
  cases op <;> exact encodedAs_of_encode_eq rfl rfl

theorem aluImm_encodedAs (op : AluOp) (n : Byte) : EncodedAs (.aluImm op n) [opByte (0x80 + 8 * op.code + 0x46), n] := by
  cases op <;> exact encodedAs_of_encode_eq rfl rfl

theorem exec_aluReg (op : AluOp) (r : Reg8) (s : State) : exec (.aluReg op r) s = .next (aluWith op (s.reg8 r) 4 s) := by
  cases op <;> cases r <;> rfl

theorem exec_aluAtHL (op : AluOp) (s : State) : exec (.aluAtHL op) s = .next (aluWith op (memRead s s.hl) 8 s) := by
  cases op <;> rfl

theorem exec_aluImm (op : AluOp) (n : Byte) (s : State) : exec (.aluImm op n) s = .next (aluWith op n 8 s) := by
  cases op <;> rfl

/-- A sum into A, with any carry in (R260). -/
theorem setA_add8 (s : State) (v : Byte) (cin : Bool) (k : Nat) :
    ((s.setA (add8 s.cpu.a v cin).r).setF (add8 s.cpu.a v cin).flags).withCycles k = afterAdd s v cin.toNat k := by
  rw [setA_setF_flags, add8_flags]
  rfl

/-- A difference into A, with any borrow in (R261). -/
theorem setA_sub8 (s : State) (v : Byte) (cin : Bool) (k : Nat) :
    ((s.setA (sub8 s.cpu.a v cin).r).setF (sub8 s.cpu.a v cin).flags).withCycles k = afterSub s v cin.toNat k := by
  rw [setA_setF_flags, sub8_r, sub8_flags]
  rfl

theorem aluWith_add (s : State) (v : Byte) (k : Nat) : aluWith .add v k s = afterAdd s v 0 k := setA_add8 s v false k

theorem aluWith_adc (s : State) (v : Byte) (k : Nat) : aluWith .adc v k s = afterAdd s v s.flagC.toNat k :=
  setA_add8 s v s.flagC k

theorem aluWith_sub (s : State) (v : Byte) (k : Nat) : aluWith .sub v k s = afterSub s v 0 k := setA_sub8 s v false k

theorem aluWith_sbc (s : State) (v : Byte) (k : Nat) : aluWith .sbc v k s = afterSub s v s.flagC.toNat k :=
  setA_sub8 s v s.flagC k

theorem aluWith_and (s : State) (v : Byte) (k : Nat) :
    aluWith .and v k s = withAF s (s.cpu.a &&& v) (flagByte (decide (s.cpu.a &&& v = 0)) false true false) k := by
  rw [← and8_flags]
  exact setA_setF_flags s _ (and8 s.cpu.a v) k

theorem aluWith_xor (s : State) (v : Byte) (k : Nat) :
    aluWith .xor v k s = withAF s (s.cpu.a ^^^ v) (flagByte (decide (s.cpu.a ^^^ v = 0)) false false false) k := by
  rw [← xor8_flags]
  exact setA_setF_flags s _ (xor8 s.cpu.a v) k

theorem aluWith_or (s : State) (v : Byte) (k : Nat) :
    aluWith .or v k s = withAF s (s.cpu.a ||| v) (flagByte (decide (s.cpu.a ||| v = 0)) false false false) k := by
  rw [← or8_flags]
  exact setA_setF_flags s _ (or8 s.cpu.a v) k

/-- CP keeps A, and its Z says whether the two bytes are equal (R285). -/
theorem aluWith_cp (s : State) (v : Byte) (k : Nat) :
    aluWith .cp v k s = withAF s s.cpu.a
      (flagByte (decide (s.cpu.a = v)) true (decide (s.cpu.a.toNat % 16 < v.toNat % 16))
        (decide (s.cpu.a.toNat < v.toNat))) k := by
  rw [← sub8_z_eq]
  exact setF_packFlags s _ _ _ _ k

/-- Settles O17: each form is the shared operation, whose sum is the exact one. -/
theorem addAndAddWithCarry : Obligations.AddAndAddWithCarry := by
  intro r n s
  refine ⟨aluReg_encodedAs .add r, aluAtHL_encodedAs .add, aluImm_encodedAs .add n,
    aluReg_encodedAs .adc r, aluAtHL_encodedAs .adc, aluImm_encodedAs .adc n, ?_⟩
  simp only [exec_aluReg, exec_aluAtHL, exec_aluImm, aluWith_add, aluWith_adc, and_self]

/-- Settles O18: each form is the shared operation, whose borrows are those of the integers. -/
theorem subtractAndSubtractWithCarry : Obligations.SubtractAndSubtractWithCarry := by
  intro r n s
  refine ⟨aluReg_encodedAs .sub r, aluAtHL_encodedAs .sub, aluImm_encodedAs .sub n,
    aluReg_encodedAs .sbc r, aluAtHL_encodedAs .sbc, aluImm_encodedAs .sbc n, ?_⟩
  simp only [exec_aluReg, exec_aluAtHL, exec_aluImm, aluWith_sub, aluWith_sbc, and_self]

/-- Settles O19: each form is the shared operation, with F written whole from the result. -/
theorem andXorOr : Obligations.AndXorOr := by
  intro r n s andWith xorWith orWith
  refine ⟨aluReg_encodedAs .and r, aluAtHL_encodedAs .and, aluImm_encodedAs .and n,
    aluReg_encodedAs .xor r, aluAtHL_encodedAs .xor, aluImm_encodedAs .xor n,
    aluReg_encodedAs .or r, aluAtHL_encodedAs .or, aluImm_encodedAs .or n, ?_⟩
  simp only [exec_aluReg, exec_aluAtHL, exec_aluImm, aluWith_and, aluWith_xor, aluWith_or, and_self, andWith, xorWith, orWith]

/-- Settles O20: each form is the shared operation, which keeps A. -/
theorem compareSetsFlagsOnly : Obligations.CompareSetsFlagsOnly := by
  intro r n s compareWith
  refine ⟨aluReg_encodedAs .cp r, aluAtHL_encodedAs .cp, aluImm_encodedAs .cp n, ?_⟩
  simp only [exec_aluReg, exec_aluAtHL, exec_aluImm, aluWith_cp, and_self, compareWith]

/-! ## INC and DEC -/

theorem incReg_encodedAs (r : Reg8) : EncodedAs (.incReg r) [opByte (0x04 + 8 * r.code)] := by
  cases r <;> exact encodedAs_of_encode_eq rfl rfl

theorem decReg_encodedAs (r : Reg8) : EncodedAs (.decReg r) [opByte (0x05 + 8 * r.code)] := by
  cases r <;> exact encodedAs_of_encode_eq rfl rfl

theorem exec_incReg (r : Reg8) (s : State) : exec (.incReg r) s = .next (incOperand (.reg r) 4 s) := by
  cases r <;> rfl

theorem exec_decReg (r : Reg8) (s : State) : exec (.decReg r) s = .next (decOperand (.reg r) 4 s) := by
  cases r <;> rfl

/-- A register and F written: nothing outside the CPU changes but the cycle count. -/
theorem setReg8_setF_flags (s : State) (r : Reg8) (v : Byte) (x : AluResult) (k : Nat) :
    ((s.setReg8 r v).setF x.flags).withCycles k =
      { s with cpu := { (s.setReg8 r v).cpu with f := x.flags }, cycles := k } := by
  rw [s.setReg8_eq_withCpu r v, State.setF, flags_and_F0]
  rfl

/-- A byte stored, then F written: of the CPU's registers only F changes. -/
theorem memWrite_setF_flags (s : State) (a : Word) (v : Byte) (x : AluResult) (k : Nat) :
    ((memWrite s a v).setF x.flags).withCycles k =
      { memWrite s a v with cpu := { s.cpu with f := x.flags }, cycles := k } := by
  rw [State.setF, flags_and_F0, memWrite_cpu]
  rfl

/-- Settles O21: the operand is written through its accessor, and the flags are those of the value read. -/
theorem incrementAndDecrementByte : Obligations.IncrementAndDecrementByte := by
  intro r s incF decF
  have hinc (v : Byte) : incF v = (inc8 v s.flagC).flags := (inc8_flags v s.flagC).symm
  have hdec (v : Byte) : decF v = (dec8 v s.flagC).flags := (dec8_flags v s.flagC).symm
  simp only [hinc, hdec, exec_incReg, exec_decReg]
  exact ⟨incReg_encodedAs r, encodedAs_of_encode_eq rfl rfl, decReg_encodedAs r, encodedAs_of_encode_eq rfl rfl,
    congrArg Host.Outcome.next (setReg8_setF_flags s r _ _ 4), congrArg Host.Outcome.next (setReg8_setF_flags s r _ _ 4),
    congrArg Host.Outcome.next (memWrite_setF_flags s s.hl _ _ 12),
    congrArg Host.Outcome.next (memWrite_setF_flags s s.hl _ _ 12)⟩

/-! ## DAA -/

theorem exec_daa_eq (s : State) :
    exec .daa s = .next (withAF s (daa8 s.cpu.a s.flagN s.flagH s.flagC).r
      (daa8 s.cpu.a s.flagN s.flagH s.flagC).flags 4) :=
  congrArg Host.Outcome.next (setA_setF_flags s _ (daa8 s.cpu.a s.flagN s.flagH s.flagC) 4)

/-- Settles O22, by DAA in numbers in each of its two branches. -/
theorem decimalAdjust_eq_correction : Obligations.DecimalAdjust := by
  intro s a high low plus minus
  obtain ⟨hplus, hminus⟩ := daa8_eq s.cpu.a s.flagH s.flagC
  refine ⟨encodedAs_of_encode_eq rfl rfl, fun hn => ?afterSum, fun hn => ?afterDifference⟩
  case afterSum => rw [exec_daa_eq, hn, hplus, flags_eq]
  case afterDifference => rw [exec_daa_eq, hn, hminus, flags_eq]

/-! ## CPL, SCF and CCF -/

theorem not_eq_ofNat (v : Byte) : ~~~v = BitVec.ofNat 8 (255 - v.toNat) := by
  apply BitVec.eq_of_toNat_eq
  rw [BitVec.toNat_not, BitVec.toNat_ofNat]
  omega

/-- Settles O24: F is written whole, and the complement is the difference from 255. -/
theorem complementAndCarryFlag : Obligations.ComplementAndCarryFlag := by
  intro s
  rw [← not_eq_ofNat]
  refine ⟨?_, ?_, ?_, ?cpl, ?scf, ?ccf⟩
  case cpl => exact congrArg Host.Outcome.next (setA_setF_packFlags s _ s.flagZ true true s.flagC 4)
  case scf => exact congrArg Host.Outcome.next (setF_packFlags s s.flagZ false false true 4)
  case ccf => exact congrArg Host.Outcome.next (setF_packFlags s s.flagZ false false (!s.flagC) 4)
  all_goals exact encodedAs_of_encode_eq rfl rfl

/-! ## Packed decimal numbers -/

/-- The byte that holds a number's last two decimal digits, as a number. -/
def packedDecimal (k : Nat) : Nat := 16 * (k / 10 % 10) + k % 10

theorem packedDecimal_of_digits {k p q : Nat} (hk : k % 100 = 10 * p + q) (hq : q < 10) :
    packedDecimal k = 16 * p + q := by
  unfold packedDecimal
  omega

theorem packedDecimal_lt (k : Nat) : packedDecimal k < 256 := by
  unfold packedDecimal
  omega

theorem exists_packed_digits {k : Nat} (hk : k < 100) :
    ∃ p q, q < 10 ∧ k = 10 * p + q ∧ packedDecimal k = 16 * p + q :=
  have hdigits : k = 10 * (k / 10) + k % 10 := by omega
  have hlast : k % 10 < 10 := by omega
  ⟨k / 10, k % 10, hlast, hdigits, packedDecimal_of_digits (by omega) hlast⟩

section
variable {x y : Nat} (hx : x < 100) (hy : y < 100)
include hx hy

/-- DAA's low correction applies after ADD exactly when the last digits carry. -/
theorem packedDecimal_low_carry_iff :
    packedDecimal x % 16 + packedDecimal y % 16 ≥ 16 ∨ (packedDecimal x + packedDecimal y) % 256 % 16 > 9 ↔
      x % 10 + y % 10 ≥ 10 := by
  obtain ⟨p, q, hq, rfl, hX⟩ := exists_packed_digits hx
  obtain ⟨p', q', hq', rfl, hY⟩ := exists_packed_digits hy
  omega

/-- DAA's high correction applies after ADD exactly when the sum has three digits. -/
theorem packedDecimal_high_carry_iff :
    packedDecimal x + packedDecimal y ≥ 256 ∨ (packedDecimal x + packedDecimal y) % 256 > 0x99 ↔ x + y ≥ 100 := by
  obtain ⟨p, q, hq, rfl, hX⟩ := exists_packed_digits hx
  obtain ⟨p', q', hq', rfl, hY⟩ := exists_packed_digits hy
  omega

/-- The sum, corrected for the two carries, is the packed sum. -/
theorem packedDecimal_add :
    ((packedDecimal x + packedDecimal y) % 256 + 0x60 * (decide (x + y ≥ 100)).toNat +
      0x06 * (decide (x % 10 + y % 10 ≥ 10)).toNat) % 256 = packedDecimal (x + y) := by
  obtain ⟨p, q, hq, rfl, hX⟩ := exists_packed_digits hx
  obtain ⟨p', q', hq', rfl, hY⟩ := exists_packed_digits hy
  rw [hX, hY]
  by_cases hlow : (10 * p + q) % 10 + (10 * p' + q') % 10 ≥ 10 <;> by_cases hhigh : 10 * p + q + (10 * p' + q') ≥ 100 <;>
    simp only [hlow, hhigh, decide_true, decide_false, Bool.toNat_true, Bool.toNat_false]
  · rw [packedDecimal_of_digits (p := p + p' - 9) (q := q + q' - 10) (by omega) (by omega)]
    omega
  · rw [packedDecimal_of_digits (p := p + p' + 1) (q := q + q' - 10) (by omega) (by omega)]
    omega
  · rw [packedDecimal_of_digits (p := p + p' - 10) (q := q + q') (by omega) (by omega)]
    omega
  · rw [packedDecimal_of_digits (p := p + p') (q := q + q') (by omega) (by omega)]
    omega

theorem packedDecimal_low_borrow_iff : packedDecimal x % 16 < packedDecimal y % 16 ↔ x % 10 < y % 10 := by
  obtain ⟨p, q, hq, rfl, hX⟩ := exists_packed_digits hx
  obtain ⟨p', q', hq', rfl, hY⟩ := exists_packed_digits hy
  omega

theorem packedDecimal_lt_iff : packedDecimal x < packedDecimal y ↔ x < y := by
  obtain ⟨p, q, hq, rfl, hX⟩ := exists_packed_digits hx
  obtain ⟨p', q', hq', rfl, hY⟩ := exists_packed_digits hy
  omega

/-- The difference, corrected for the two borrows, is the packed difference modulo 100. -/
theorem packedDecimal_sub :
    ((packedDecimal x + 512 - packedDecimal y) % 256 + 256 - 0x60 * (decide (x < y)).toNat -
      0x06 * (decide (x % 10 < y % 10)).toNat) % 256 = packedDecimal (x + 100 - y) := by
  obtain ⟨p, q, hq, rfl, hX⟩ := exists_packed_digits hx
  obtain ⟨p', q', hq', rfl, hY⟩ := exists_packed_digits hy
  rw [hX, hY]
  by_cases hlow : (10 * p + q) % 10 < (10 * p' + q') % 10 <;> by_cases hhigh : 10 * p + q < 10 * p' + q' <;>
    simp only [hlow, hhigh, decide_true, decide_false, Bool.toNat_true, Bool.toNat_false]
  · rw [packedDecimal_of_digits (p := p + 9 - p') (q := q + 10 - q') (by omega) (by omega)]
    omega
  · rw [packedDecimal_of_digits (p := p - 1 - p') (q := q + 10 - q') (by omega) (by omega)]
    omega
  · rw [packedDecimal_of_digits (p := p + 10 - p') (q := q - q') (by omega) (by omega)]
    omega
  · rw [packedDecimal_of_digits (p := p - p') (q := q - q') (by omega) (by omega)]
    omega

end

/-! ## DAA corrects a sum and a difference of packed decimal numbers -/

theorem flagN_withAF (s : State) (a : Byte) (z n h c : Bool) (k : Nat) : (withAF s a (flagByte z n h c) k).flagN = n := by
  rw [← packFlags_eq]
  exact packFlags_bit6 z n h c

theorem flagH_withAF (s : State) (a : Byte) (z n h c : Bool) (k : Nat) : (withAF s a (flagByte z n h c) k).flagH = h := by
  rw [← packFlags_eq]
  exact packFlags_bit5 z n h c

theorem flagC_withAF (s : State) (a : Byte) (z n h c : Bool) (k : Nat) : (withAF s a (flagByte z n h c) k).flagC = c := by
  rw [← packFlags_eq]
  exact packFlags_bit4 z n h c

theorem flagH_afterAdd (s : State) (v : Byte) (cin k : Nat) :
    (afterAdd s v cin k).flagH = decide (s.cpu.a.toNat % 16 + v.toNat % 16 + cin ≥ 16) := flagH_withAF ..

theorem flagC_afterAdd (s : State) (v : Byte) (cin k : Nat) :
    (afterAdd s v cin k).flagC = decide (s.cpu.a.toNat + v.toNat + cin ≥ 256) := flagC_withAF ..

theorem flagH_afterSub (s : State) (v : Byte) (cin k : Nat) :
    (afterSub s v cin k).flagH = decide (s.cpu.a.toNat % 16 < v.toNat % 16 + cin) := flagH_withAF ..

theorem flagC_afterSub (s : State) (v : Byte) (cin k : Nat) :
    (afterSub s v cin k).flagC = decide (s.cpu.a.toNat < v.toNat + cin) := flagC_withAF ..

/-- A byte that holds two decimal digits, as a number. -/
theorem toNat_of_eq_packedDecimal {v : Byte} {k : Nat} (h : v = BitVec.ofNat 8 (packedDecimal k)) :
    v.toNat = packedDecimal k := by
  rw [h, BitVec.toNat_ofNat]
  exact Nat.mod_eq_of_lt (packedDecimal_lt k)

section
variable {s : State} {v : Byte} {x y : Nat} (hx : x < 100) (hy : y < 100)
  (ha : s.cpu.a.toNat = packedDecimal x) (hv : v.toNat = packedDecimal y)
include hx hy ha hv

/-- DAA after a sum tests for exactly the two decimal carries (R260, R292). -/
theorem daa_afterAdd (k : Nat) : ∃ u, exec .daa (afterAdd s v 0 k) = .next u ∧
    u.cpu.a = BitVec.ofNat 8 (packedDecimal (x + y)) ∧ u.flagC = decide (x + y ≥ 100) := by
  have hA : (afterAdd s v 0 k).cpu.a.toNat = (packedDecimal x + packedDecimal y) % 256 := by
    rw [← ha, ← hv]
    rfl
  have hhigh : ((afterAdd s v 0 k).flagC || decide ((afterAdd s v 0 k).cpu.a.toNat > 0x99)) = decide (x + y ≥ 100) := by
    rw [flagC_afterAdd, hA, ha, hv, ← Bool.decide_or, decide_eq_decide]
    exact packedDecimal_high_carry_iff hx hy
  have hlow : ((afterAdd s v 0 k).flagH || decide ((afterAdd s v 0 k).cpu.a.toNat % 16 > 9)) =
      decide (x % 10 + y % 10 ≥ 10) := by
    rw [flagH_afterAdd, hA, ha, hv, ← Bool.decide_or, decide_eq_decide]
    exact packedDecimal_low_carry_iff hx hy
  obtain ⟨-, hdaa, -⟩ := decimalAdjust_eq_correction (afterAdd s v 0 k)
  rw [hhigh, hlow, hA, packedDecimal_add hx hy] at hdaa
  exact ⟨_, hdaa (flagN_withAF ..), rfl, flagC_withAF ..⟩

/-- H and C after a difference are exactly the two decimal borrows (R261, R292). -/
theorem daa_afterSub (k : Nat) : ∃ u, exec .daa (afterSub s v 0 k) = .next u ∧
    u.cpu.a = BitVec.ofNat 8 (packedDecimal (x + 100 - y)) ∧ u.flagC = decide (x < y) := by
  have hA : (afterSub s v 0 k).cpu.a.toNat = (packedDecimal x + 512 - packedDecimal y) % 256 := by
    rw [← ha, ← hv]
    rfl
  have hhigh : (afterSub s v 0 k).flagC = decide (x < y) := by
    rw [flagC_afterSub, ha, hv, decide_eq_decide]
    exact packedDecimal_lt_iff hx hy
  have hlow : (afterSub s v 0 k).flagH = decide (x % 10 < y % 10) := by
    rw [flagH_afterSub, ha, hv, decide_eq_decide]
    exact packedDecimal_low_borrow_iff hx hy
  obtain ⟨-, -, hdaa⟩ := decimalAdjust_eq_correction (afterSub s v 0 k)
  rw [hhigh, hlow, hA, packedDecimal_sub hx hy] at hdaa
  exact ⟨_, hdaa (flagN_withAF ..), rfl, flagC_withAF ..⟩

end

/-- Settles O23: ADD and SUB answer the exact sum and difference, whose two carries and borrows DAA corrects. -/
theorem decimalAdditionIsRight : Obligations.DecimalAdditionIsRight := by
  intro s x y packed ha hb
  have hA : s.cpu.a.toNat = packedDecimal x := toNat_of_eq_packedDecimal ha
  have hB : s.cpu.b.toNat = packedDecimal y := toNat_of_eq_packedDecimal hb
  obtain ⟨u, hu, hua, huc⟩ := daa_afterAdd x.isLt y.isLt hA hB 4
  obtain ⟨w, hw, hwa, hwc⟩ := daa_afterSub x.isLt y.isLt hA hB 4
  have hadd : exec .add_a_b s = .next (afterAdd s s.cpu.b 0 4) := congrArg Host.Outcome.next (aluWith_add s s.cpu.b 4)
  have hsub : exec .sub_b s = .next (afterSub s s.cpu.b 0 4) := congrArg Host.Outcome.next (aluWith_sub s s.cpu.b 4)
  exact ⟨⟨_, u, hadd, hu, hua, huc⟩, ⟨_, w, hsub, hw, hwa, hwc⟩⟩

end Sys2Proof.Machine
end

section
/-! PROOFS. ADD HL,rr, INC rr and DEC rr (spec/43_alu16.md R310 to R312): how each is encoded and the state it answers. -/

namespace Sys2Proof.Machine

theorem addHLPair_encodedAs (p : Reg16) : EncodedAs (.addHLPair p) [opByte (0x09 + 16 * p.code)] := by
  cases p <;> exact encodedAs_of_encode_eq rfl rfl

theorem incPair_encodedAs (p : Reg16) : EncodedAs (.incPair p) [opByte (0x03 + 16 * p.code)] := by
  cases p <;> exact encodedAs_of_encode_eq rfl rfl

theorem decPair_encodedAs (p : Reg16) : EncodedAs (.decPair p) [opByte (0x0B + 16 * p.code)] := by
  cases p <;> exact encodedAs_of_encode_eq rfl rfl

theorem exec_addHLPair (p : Reg16) (s : State) : exec (.addHLPair p) s = .next (addHL p s) := by
  cases p <;> rfl

theorem exec_incPair (p : Reg16) (s : State) : exec (.incPair p) s = .next (incPair p s) := by
  cases p <;> rfl

theorem exec_decPair (p : Reg16) (s : State) : exec (.decPair p) s = .next (decPair p s) := by
  cases p <;> rfl

theorem add16Flags_and_F0 (hl v : Word) (z : Bool) : add16Flags hl v z &&& 0xF0 = add16Flags hl v z :=
  packFlags_and_F0 ..

/-- The sum and its flags are taken from the state before HL is written, also where the pair is HL. -/
theorem addHL_eq (p : Reg16) (s : State) :
    addHL p s = { s with
      cpu := { s.cpu with
        h := hiByte (add16 s.hl (s.pair p)), l := loByte (add16 s.hl (s.pair p)),
        f := add16Flags s.hl (s.pair p) s.flagZ },
      cycles := 8 } := by
  rw [addHL, State.setF, add16Flags_and_F0]
  rfl

theorem incPair_eq (p : Reg16) (s : State) :
    incPair p s = { s.setPair p (BitVec.ofNat 16 ((s.pair p).toNat + 1)) with cycles := 8 } := by
  have hinc : s.pair p + 1 = BitVec.ofNat 16 ((s.pair p).toNat + 1) := BitVec.add_def _ 1
  rw [incPair, hinc]
  rfl

/-- One less is 65535 more, modulo 65536. -/
theorem decPair_eq (p : Reg16) (s : State) :
    decPair p s = { s.setPair p (BitVec.ofNat 16 ((s.pair p).toNat + 65535)) with cycles := 8 } := by
  have hdec : s.pair p - 1 = BitVec.ofNat 16 ((s.pair p).toNat + 65535) :=
    (BitVec.sub_eq_add_neg _ _).trans (BitVec.add_def _ (-1))
  rw [decPair, hdec]
  rfl

/-- Settles O25: each form is its shared operation on every pair, and F is `add16Flags`, which the mask of F leaves
alone. -/
theorem pairArithmetic : Obligations.PairArithmetic := by
  intro p s sum
  rw [← add16Flags_eq]
  exact ⟨addHLPair_encodedAs p, incPair_encodedAs p, decPair_encodedAs p,
    (exec_addHLPair p s).trans (congrArg Host.Outcome.next (addHL_eq p s)),
    (exec_incPair p s).trans (congrArg Host.Outcome.next (incPair_eq p s)),
    (exec_decPair p s).trans (congrArg Host.Outcome.next (decPair_eq p s))⟩

end Sys2Proof.Machine
end

section
/-! PROOFS. Rotates, shifts, SWAP, BIT, RES and SET (spec/44_rotate_shift_bit.md R320 to R346): how each is encoded and the
state it answers. -/

namespace Sys2Proof.Machine

/-! ## RLCA, RRCA, RLA and RRA -/

/-- A is rotated as the operand of the 0xCB form is; of the flags only C can be set. -/
theorem rotateA_eq (op : RotOp) (s : State) :
    rotateA op s = withAF s (BitVec.ofNat 8 (rotResult op s.cpu.a s.flagC))
      (flagByte false false false (rotCarry op s.cpu.a)) 4 := by
  rw [← rotA8_flags op s.cpu.a s.flagC, ← (rot8_eq op s.cpu.a s.flagC).1]
  exact setA_setF_flags s _ (rotA8 op s.cpu.a s.flagC) 4

/-- Settles O26: each of the four is the rotate of A by its operation. -/
theorem rotateAccumulator : Obligations.RotateAccumulator := by
  intro s rotated
  have hrotateA (op : RotOp) : (.next (rotateA op s) : Result) = .next (rotated op) :=
    congrArg Host.Outcome.next (rotateA_eq op s)
  refine ⟨?_, ?_, ?_, ?_, hrotateA .rlc, hrotateA .rrc, hrotateA .rl, hrotateA .rr⟩
  all_goals exact encodedAs_of_encode_eq rfl rfl

/-! ## RLC, RRC, RL, RR, SLA, SRA, SWAP and SRL -/

theorem rot_encodedAs (op : RotOp) (o : Operand8) : EncodedAs (.rot op o) [0xCB, opByte (8 * op.code + o.code)] := by
  rcases o with r | _
  · cases op <;> cases r <;> exact encodedAs_of_encode_eq rfl rfl
  · cases op <;> exact encodedAs_of_encode_eq rfl rfl

theorem exec_rot (op : RotOp) (o : Operand8) (s : State) : exec (.rot op o) s = .next (rotateOperand op o s) := by
  rcases o with r | _
  · cases op <;> cases r <;> rfl
  · cases op <;> rfl

/-- All eight operations are one: the operand is written through its accessor, and F comes from the value read. -/
theorem rot_encodedAs_exec (op : RotOp) (r : Reg8) (s : State) :
    let f (v : Byte) := flagByte (decide (rotResult op v s.flagC = 0)) false false (rotCarry op v)
    EncodedAs (.rot op (.reg r)) [0xCB, opByte (8 * op.code + r.code)] ∧
    EncodedAs (.rot op .atHL) [0xCB, opByte (8 * op.code + 6)] ∧
    exec (.rot op (.reg r)) s = .next { s with
      cpu := { (s.setReg8 r (BitVec.ofNat 8 (rotResult op (s.reg8 r) s.flagC))).cpu with f := f (s.reg8 r) }, cycles := 8 } ∧
    exec (.rot op .atHL) s = .next { memWrite s s.hl (BitVec.ofNat 8 (rotResult op (memRead s s.hl) s.flagC)) with
      cpu := { s.cpu with f := f (memRead s s.hl) }, cycles := 16 } := by
  intro f
  have hflags (v : Byte) : f v = (rot8 op v s.flagC).flags := (rot8_flags op v s.flagC).symm
  have hresult (v : Byte) : BitVec.ofNat 8 (rotResult op v s.flagC) = (rot8 op v s.flagC).r := (rot8_eq op v s.flagC).1.symm
  simp only [hflags, hresult, exec_rot]
  exact ⟨rot_encodedAs op (.reg r), rot_encodedAs op .atHL,
    congrArg Host.Outcome.next (setReg8_setF_flags s r _ _ 8),
    congrArg Host.Outcome.next (memWrite_setF_flags s s.hl _ _ 16)⟩

/-- Settles O27, by what holds of every operation of the block. -/
theorem rotateOperand_rotates : Obligations.RotateOperand :=
  fun op r s _ => rot_encodedAs_exec op r s

/-- Settles O28, by what holds of every operation of the block. -/
theorem shiftAndSwapOperand : Obligations.ShiftAndSwapOperand :=
  fun op r s _ => rot_encodedAs_exec op r s

/-! ## BIT, RES and SET -/

/-- The three blocks are 64 opcodes apart (R163). -/
theorem bit_res_set_encodedAs (n : Fin 8) (o : Operand8) :
    EncodedAs (.bit n o) [0xCB, opByte (0x40 + 8 * n.val + o.code)] ∧
    EncodedAs (.res n o) [0xCB, opByte (0x80 + 8 * n.val + o.code)] ∧
    EncodedAs (.set n o) [0xCB, opByte (0xC0 + 8 * n.val + o.code)] := by
  rcases o with r | _
  · fin_cases n <;> cases r <;>
      exact ⟨encodedAs_of_encode_eq rfl rfl, encodedAs_of_encode_eq rfl rfl, encodedAs_of_encode_eq rfl rfl⟩
  · fin_cases n <;>
      exact ⟨encodedAs_of_encode_eq rfl rfl, encodedAs_of_encode_eq rfl rfl, encodedAs_of_encode_eq rfl rfl⟩

theorem exec_bit_res_set (n : Fin 8) (o : Operand8) (s : State) :
    exec (.bit n o) s = .next (testBit n o s) ∧ exec (.res n o) s = .next (resetBit n o s) ∧
    exec (.set n o) s = .next (setBit n o s) := by
  rcases o with r | _
  · fin_cases n <;> cases r <;> exact ⟨rfl, rfl, rfl⟩
  · fin_cases n <;> exact ⟨rfl, rfl, rfl⟩

theorem not_getLsbD_eq (v : Byte) (n : Nat) : (!v.getLsbD n) = decide (v.toNat / 2 ^ n % 2 = 0) := by
  rw [← BitVec.testBit_toNat, Nat.testBit_eq_decide_div_mod_eq, ← decide_not, decide_eq_decide]
  exact Nat.mod_two_ne_one

/-- BIT keeps A and writes F from the tested bit and the old carry (R341, R342). -/
theorem testBit_eq (n : Fin 8) (o : Operand8) (s : State) :
    testBit n o s = withAF s s.cpu.a
      (flagByte (decide ((readOperand s o).toNat / 2 ^ n.val % 2 = 0)) false true s.flagC) (bitCycles o) := by
  rw [← not_getLsbD_eq]
  exact setF_packFlags s _ false true s.flagC (bitCycles o)

theorem bitMask_getLsbD (n : Fin 8) (k : Nat) : (bitMask n).getLsbD k = decide (k = n.val) := by
  refine (BitVec.getLsbD_twoPow n.val k).trans ?_
  rw [decide_eq_true n.isLt, Bool.true_and, decide_eq_decide]
  exact eq_comm

/-- Clearing through the mask clears that bit alone. -/
theorem and_not_bitMask_getLsbD (v : Byte) (n : Fin 8) {k : Nat} (hk : k < 8) :
    (v &&& ~~~bitMask n).getLsbD k = (v.getLsbD k && decide (k ≠ n.val)) := by
  rw [BitVec.getLsbD_and, BitVec.getLsbD_not, bitMask_getLsbD, decide_eq_true hk, Bool.true_and, decide_not]

/-- Setting through the mask sets that bit alone. -/
theorem or_bitMask_getLsbD (v : Byte) (n : Fin 8) (k : Nat) :
    (v ||| bitMask n).getLsbD k = (v.getLsbD k || decide (k = n.val)) := by
  rw [BitVec.getLsbD_or, bitMask_getLsbD]

/-- Settles O29: BIT reads its operand only; RES and SET write it back through the mask of the bit. -/
theorem bitResAndSet : Obligations.BitResAndSet := by
  have hHL (block y : Nat) : block + 6 + 8 * y = block + 8 * y + 6 := Nat.add_right_comm ..
  refine ⟨fun n r s => ?bit, fun n r s =>
    ⟨(· &&& ~~~bitMask n), (· ||| bitMask n),
      fun v k hk => ⟨and_not_bitMask_getLsbD v n hk, or_bitMask_getLsbD v n k⟩, ?resAndSet⟩⟩
  all_goals
    obtain ⟨hbit, hres, hset⟩ := bit_res_set_encodedAs n (.reg r)
    obtain ⟨hbitHL, hresHL, hsetHL⟩ := bit_res_set_encodedAs n .atHL
    simp only [exec_bit_res_set]
  case bit =>
    exact ⟨hbit, hHL 0x40 n ▸ hbitHL, congrArg Host.Outcome.next (testBit_eq n (.reg r) s),
      congrArg Host.Outcome.next (testBit_eq n .atHL s)⟩
  case resAndSet =>
    exact ⟨hres, hHL 0x80 n ▸ hresHL, hset, hHL 0xC0 n ▸ hsetHL, rfl, rfl,
      congrArg Host.Outcome.next (withCycles_memWrite ..), congrArg Host.Outcome.next (withCycles_memWrite ..)⟩

end Sys2Proof.Machine
end

section
/-! PROOFS. Jumps, calls, returns and restarts (spec/45_control.md R360 to R375): how each is encoded, the state it answers
taken and not taken, and that a return undoes a call whose stack lies in WRAM or HRAM. -/

namespace Sys2Proof.Machine

/-! ## The conditions -/

/-- The flag a condition tests and its value, as R370 tables them. -/
def CondMet (s : State) : Cond → Prop
  | .nz => s.cpu.f.getLsbD 7 = false
  | .z => s.cpu.f.getLsbD 7 = true
  | .nc => s.cpu.f.getLsbD 4 = false
  | .c => s.cpu.f.getLsbD 4 = true

theorem condHolds_iff (s : State) (cc : Cond) : condHolds s cc = true ↔ CondMet s cc := by
  cases cc with
  | nz | nc => exact Bool.not_eq_eq_eq_not
  | z | c => exact Iff.rfl

/-! ## Jumps -/

theorem jpCond_encodedAs (cc : Cond) (nn : Word) :
    EncodedAs (.jpCond cc nn) [opByte (0xC2 + 8 * cc.code), loByte nn, hiByte nn] := by
  cases cc <;> exact encodedAs_of_encode_eq rfl rfl

theorem jrCond_encodedAs (cc : Cond) (e : Byte) : EncodedAs (.jrCond cc e) [opByte (0x20 + 8 * cc.code), e] := by
  cases cc <;> exact encodedAs_of_encode_eq rfl rfl

theorem exec_jpCond (cc : Cond) (nn : Word) (s : State) : exec (.jpCond cc nn) s = .next (jumpCond cc nn s) := by
  cases cc <;> rfl

theorem exec_jrCond (cc : Cond) (e : Byte) (s : State) : exec (.jrCond cc e) s = .next (jumpRelCond cc e s) := by
  cases cc <;> rfl

/-- Settles O31: a taken jump writes PC and the cycle count, one not taken the cycle count only. -/
theorem jumps : Obligations.Jumps := by
  intro cc e nn s holds goTo near
  have hcond : condHolds s cc = true ↔ holds := condHolds_iff s cc
  rw [exec_jpCond, exec_jrCond, jumpCond, jumpRelCond]
  refine ⟨?_, ?_, ?_, jpCond_encodedAs cc nn, jrCond_encodedAs cc e, rfl, rfl, rfl, fun h => ?taken, fun h => ?untaken⟩
  case taken =>
    rw [if_pos (hcond.mpr h), if_pos (hcond.mpr h)]
    exact ⟨rfl, rfl⟩
  case untaken =>
    rw [if_neg (mt hcond.mp h), if_neg (mt hcond.mp h)]
    exact ⟨rfl, rfl⟩
  all_goals exact encodedAs_of_encode_eq rfl rfl

/-! ## Calls and restarts -/

theorem callCond_encodedAs (cc : Cond) (nn : Word) :
    EncodedAs (.callCond cc nn) [opByte (0xC4 + 8 * cc.code), loByte nn, hiByte nn] := by
  cases cc <;> exact encodedAs_of_encode_eq rfl rfl

theorem rst_encodedAs (t : Fin 8) : EncodedAs (.rst t) [opByte (0xC7 + 8 * t.val)] := by
  fin_cases t <;> exact encodedAs_of_encode_eq rfl rfl

theorem exec_callCond (cc : Cond) (nn : Word) (s : State) : exec (.callCond cc nn) s = .next (callCond cc nn s) := by
  cases cc <;> rfl

theorem exec_rst (t : Fin 8) (s : State) : exec (.rst t) s = .next (restart t s) := by
  fin_cases t <;> rfl

/-- A call pushes PC, and its two stores leave the rest of the CPU alone. -/
theorem callTo_eq (addr : Word) (n : Nat) (s : State) : callTo addr n s = afterPush s s.cpu.pc addr n := by
  rw [callTo, push16_eq, State.setPC, State.setSP, memWrite_cpu, memWrite_cpu]
  rfl

theorem exec_call_nn_eq (nn : Word) (s : State) : exec (.call_nn nn) s = .next (afterPush s s.cpu.pc nn 24) :=
  congrArg Host.Outcome.next (callTo_eq nn 24 s)

/-- Settles O32: every taken form is the one push and jump. -/
theorem callsAndRestarts : Obligations.CallsAndRestarts := by
  intro cc t nn s holds
  have hcond : condHolds s cc = true ↔ holds := condHolds_iff s cc
  rw [exec_callCond, callCond, exec_rst, restart, callTo_eq, callTo_eq]
  refine ⟨encodedAs_of_encode_eq rfl rfl, rst_encodedAs t, callCond_encodedAs cc nn, exec_call_nn_eq nn s, rfl,
    fun h => ?taken, fun h => ?untaken⟩
  case taken => rw [if_pos (hcond.mpr h)]
  case untaken => rw [if_neg (mt hcond.mp h), State.withCycles]

/-! ## Returns -/

theorem retCond_encodedAs (cc : Cond) : EncodedAs (.retCond cc) [opByte (0xC0 + 8 * cc.code)] := by
  cases cc <;> exact encodedAs_of_encode_eq rfl rfl

theorem exec_retCond (cc : Cond) (s : State) : exec (.retCond cc) s = .next (returnCond cc s) := by
  cases cc <;> rfl

/-- The state after a return: PC is the popped word, SP is 2 more, and IME is as given. -/
def afterReturn (s : State) (ime : Bool) (n : Nat) : State :=
  { s with cpu := { s.cpu with sp := s.cpu.sp + 2, pc := poppedWord s, ime := ime }, cycles := n }

theorem returnTo_eq (n : Nat) (s : State) : returnTo n s = afterReturn s s.cpu.ime n := rfl

theorem exec_ret_eq (s : State) : exec .ret s = .next (afterReturn s s.cpu.ime 16) := rfl

theorem exec_reti_eq (s : State) : exec .reti s = .next (afterReturn s true 16) := rfl

/-- Settles O33: every taken form is the one pop into PC; RETI writes IME too. -/
theorem returns : Obligations.Returns := by
  intro cc s holds popped
  have hcond : condHolds s cc = true ↔ holds := condHolds_iff s cc
  rw [exec_retCond, returnCond]
  refine ⟨encodedAs_of_encode_eq rfl rfl, retCond_encodedAs cc, encodedAs_of_encode_eq rfl rfl, exec_ret_eq s,
    fun h => ?taken, fun h => ?untaken, exec_reti_eq s⟩
  case taken => rw [if_pos (hcond.mpr h), returnTo_eq]; rfl
  case untaken => rw [if_neg (mt hcond.mp h), State.withCycles]

/-! ## A return undoes a call -/

/-- An address of WRAM or HRAM (R84), where a byte has no second name and no side effect. -/
def InWramOrHram (a : Word) : Prop :=
  (0xC000 ≤ a.toNat ∧ a.toNat < 0xE000) ∨ (0xFF80 ≤ a.toNat ∧ a.toNat < 0xFFFF)

theorem InWramOrHram.target_eq {a : Word} (h : InWramOrHram a) :
    (∃ o, target a = .wram o ∧ a.toNat = 0xC000 + o) ∨ (∃ o, target a = .hram o ∧ a.toNat = 0xFF80 + o) := by
  rcases h with ⟨h, h'⟩ | ⟨h, h'⟩
  · exact .inl ⟨_, target_of_wram h (by omega), by omega⟩
  · exact .inr ⟨_, target_of_hram h (by omega), by omega⟩

theorem InWramOrHram.holdsByte {a : Word} (h : InWramOrHram a) : (target a).HoldsByte := by
  rcases h.target_eq with ⟨o, ho, -⟩ | ⟨o, ho, -⟩ <;> rw [ho] <;> trivial

/-- In WRAM and HRAM a store reaches no other address there. -/
theorem InWramOrHram.storeReaches_other {a b : Word} (ha : InWramOrHram a) (hb : InWramOrHram b) (hne : a ≠ b) (s : State) :
    storeReaches s a b = false := by
  have hnat : a.toNat ≠ b.toNat := mt BitVec.eq_of_toNat_eq hne
  unfold storeReaches
  rcases ha.target_eq with ⟨o, ho, hao⟩ | ⟨o, ho, hao⟩ <;> rcases hb.target_eq with ⟨k, hk, hbk⟩ | ⟨k, hk, hbk⟩ <;>
    rw [ho, hk]
  · exact decide_eq_false fun h => hnat (by rw [hao, hbk, Target.wram.inj h])
  · rfl
  · rfl
  · exact decide_eq_false fun h => hnat (by rw [hao, hbk, Target.hram.inj h])

/-- A store keeps every array in canonical form. -/
theorem StoreEffect.memoriesWf {s t : State} {v : Byte} (h : StoreEffect s v t) (hm : MemoriesWf s) : MemoriesWf t := by
  cases h with
  | vram o h => exact { hm with vram := Memory.write_wf v hm.vram h }
  | extRam o h => exact { hm with extRam := Memory.write_wf v hm.extRam h }
  | wram o h => exact { hm with wram := Memory.write_wf v hm.wram h }
  | oam o h => exact { hm with oam := Memory.write_wf v hm.oam h }
  | hram o h => exact { hm with hram := Memory.write_wf v hm.hram h }
  | io o h => exact { hm with io := Memory.write_wf v hm.io h }
  | dma m h => exact { hm with oam := h hm.oam }
  | _ => exact { hm with }

theorem memWrite_memoriesWf {s : State} (hm : MemoriesWf s) (a : Word) (v : Byte) : MemoriesWf (memWrite s a v) :=
  (memWrite_effect s a v).memoriesWf hm

/-- What was pushed is what is popped: the low byte's store does not reach the high byte. -/
theorem poppedWord_afterPush {s : State} (hm : MemoriesWf s) (hhi : InWramOrHram (s.cpu.sp - 1))
    (hlo : InWramOrHram (s.cpu.sp - 2)) (v pc : Word) (n : Nat) : poppedWord (afterPush s v pc n) = v := by
  have hne : s.cpu.sp - 2 ≠ s.cpu.sp - 1 := by bv_omega
  have hnext : s.cpu.sp - 2 + 1 = s.cpu.sp - 1 := by bv_omega
  let t := memWrite s (s.cpu.sp - 1) (hiByte v)
  have hreadHi : memRead (afterPush s v pc n) (s.cpu.sp - 1) = hiByte v :=
    calc memRead (memWrite t (s.cpu.sp - 2) (loByte v)) (s.cpu.sp - 1)
      _ = memRead t (s.cpu.sp - 1) := memRead_memWrite_other _ (hlo.storeReaches_other hhi hne t)
      _ = hiByte v := memRead_memWrite_same hm hhi.holdsByte rfl _
  have hreadLo : memRead (afterPush s v pc n) (s.cpu.sp - 2) = loByte v :=
    memRead_memWrite_same (memWrite_memoriesWf hm _ _) hlo.holdsByte rfl _
  show word16 (memRead (afterPush s v pc n) (s.cpu.sp - 2 + 1)) (memRead (afterPush s v pc n) (s.cpu.sp - 2)) = v
  rw [hnext, hreadHi, hreadLo, word16_hi_lo]

/-- A return from the state a call leaves: SP is 2 less and 2 more, and PC is the word the call pushed. -/
theorem afterReturn_afterPush_cpu {s : State} (hm : MemoriesWf s) (hhi : InWramOrHram (s.cpu.sp - 1))
    (hlo : InWramOrHram (s.cpu.sp - 2)) (nn : Word) (ime : Bool) (n k : Nat) :
    (afterReturn (afterPush s s.cpu.pc nn n) ime k).cpu = { s.cpu with ime := ime } := by
  have hsp : (afterPush s s.cpu.pc nn n).cpu.sp + 2 = s.cpu.sp := BitVec.sub_add_cancel ..
  rw [afterReturn, poppedWord_afterPush hm hhi hlo, hsp]
  rfl

/-- Settles O34: the word read back is the one pushed. -/
theorem returnUndoesTheCall : Obligations.ReturnUndoesTheCall := by
  intro nn s hm hstack
  have hhi : InWramOrHram (s.cpu.sp - 1) := hstack _ (.inl rfl)
  have hlo : InWramOrHram (s.cpu.sp - 2) := hstack _ (.inr rfl)
  have hback := afterReturn_afterPush_cpu hm hhi hlo nn
  exact ⟨_, _, _, exec_call_nn_eq nn s, exec_ret_eq _, exec_reti_eq _, hback s.cpu.ime 24 16, hback true 24 16⟩

end Sys2Proof.Machine
end

section
/-! PROOFS. The control instructions and the prefix 0xCB (spec/46_system.md R380 to R385). -/

namespace Sys2Proof.Machine

/-! ## The fields of the second byte (R163) -/

theorem operand8At_code {z : Nat} (hz : z < 8) : (operand8At z).code = z := by
  interval_cases z <;> rfl

theorem rotOpAt_code {y : Nat} (hy : y < 8) : (rotOpAt y).code = y := by
  interval_cases y <;> rfl

theorem bitNumber_val {y : Nat} (hy : y < 8) : (bitNumber y).val = y := Nat.mod_eq_of_lt hy

/-- Each block of the second byte is one operation, for the decoder and for the prefix row alike. -/
theorem decodeCb_cbOperation_cases (op2 : Byte) :
    let y := op2.toNat / 8 % 8
    let o := operand8At (op2.toNat % 8)
    (op2.toNat / 64 = 0 ∧ decodeCb op2 = .rot (rotOpAt y) o ∧ cbOperation op2 = rotateOperand (rotOpAt y) o) ∨
    (op2.toNat / 64 = 1 ∧ decodeCb op2 = .bit (bitNumber y) o ∧ cbOperation op2 = testBit (bitNumber y) o) ∨
    (op2.toNat / 64 = 2 ∧ decodeCb op2 = .res (bitNumber y) o ∧ cbOperation op2 = resetBit (bitNumber y) o) ∨
    (op2.toNat / 64 = 3 ∧ decodeCb op2 = .set (bitNumber y) o ∧ cbOperation op2 = setBit (bitNumber y) o) := by
  have hblock : op2.toNat / 64 = 0 ∨ op2.toNat / 64 = 1 ∨ op2.toNat / 64 = 2 ∨ op2.toNat / 64 = 3 := by
    have := op2.isLt
    omega
  rcases hblock with h | h | h | h <;> simp [h, decodeCb, cbOperation, funext_iff]

/-! ## The selected instruction -/

/-- The bytes are the encoding of the selected instruction, and decoding undoes encoding. -/
theorem decode_prefix (op2 : Byte) (rest : List Byte) : decode (0xCB :: op2 :: rest) = .ok (decodeCb op2, rest) := by
  obtain ⟨hwf, hencode⟩ := isSpelled_decodeCb op2
  simpa [hencode] using decodeOfEncodeIsTheInstruction (decodeCb op2) rest hwf

theorem exec_decodeCb (op2 : Byte) (s : State) : exec (decodeCb op2) s = .next (cbOperation op2 s) := by
  rcases decodeCb_cbOperation_cases op2 with ⟨-, hi, ht⟩ | ⟨-, hi, ht⟩ | ⟨-, hi, ht⟩ | ⟨-, hi, ht⟩ <;> rw [hi, ht]
  · exact exec_rot ..
  · exact (exec_bit_res_set ..).1
  · exact (exec_bit_res_set ..).2.1
  · exact (exec_bit_res_set ..).2.2

theorem exec_prefix_cb_eq (op2 : Byte) (s : State) : exec (.prefix_cb op2) s = .next (cbOperation op2 s) := rfl

theorem cbCycles_cases (o : Operand8) : cbCycles o = 8 ∨ cbCycles o = 16 := by
  cases o with
  | reg r => exact .inl rfl
  | atHL => exact .inr rfl

theorem bitCycles_cases (o : Operand8) : bitCycles o = 8 ∨ bitCycles o = 12 := by
  cases o with
  | reg r => exact .inl rfl
  | atHL => exact .inr rfl

/-- BIT takes 12 cycles on the byte at HL; the operations that write it back take 16. -/
theorem cbOperation_cycles (op2 : Byte) (s : State) :
    (cbOperation op2 s).cycles = 8 ∨ (cbOperation op2 s).cycles = 12 ∨ (cbOperation op2 s).cycles = 16 := by
  rcases decodeCb_cbOperation_cases op2 with ⟨-, -, ht⟩ | ⟨-, -, ht⟩ | ⟨-, -, ht⟩ | ⟨-, -, ht⟩ <;> rw [ht]
  · exact (cbCycles_cases _).imp_right .inr
  · exact (bitCycles_cases _).imp_right .inl
  · exact (cbCycles_cases _).imp_right .inr
  · exact (cbCycles_cases _).imp_right .inr

/-- Settles O30: the decoder and the prefix row read the same fields of the second byte. -/
theorem thePrefixRunsTheSelectedInstruction : Obligations.ThePrefixRunsTheSelectedInstruction := by
  intro op2 rest s
  have hz : op2.toNat % 8 < 8 := Nat.mod_lt _ (by decide)
  have hy : op2.toNat / 8 % 8 < 8 := Nat.mod_lt _ (by decide)
  refine ⟨decodeCb op2, cbOperation op2 s, decode_prefix op2 rest, (isSpelled_decodeCb op2).1, nofun,
    ⟨operand8At (op2.toNat % 8), bitNumber (op2.toNat / 8 % 8), operand8At_code hz, bitNumber_val hy, ?fields⟩,
    (exec_prefix_cb_eq op2 s).trans (exec_decodeCb op2 s).symm, exec_decodeCb op2 s, cbOperation_cycles op2 s⟩
  case fields =>
    have hop : (rotOpAt (op2.toNat / 8 % 8)).code = (bitNumber (op2.toNat / 8 % 8)).val :=
      (rotOpAt_code hy).trans (bitNumber_val hy).symm
    rcases decodeCb_cbOperation_cases op2 with ⟨hx, hi, -⟩ | ⟨hx, hi, -⟩ | ⟨hx, hi, -⟩ | ⟨hx, hi, -⟩
    · exact .inl ⟨hx, _, hop, hi⟩
    · exact .inr (.inl ⟨hx, hi⟩)
    · exact .inr (.inr (.inl ⟨hx, hi⟩))
    · exact .inr (.inr (.inr ⟨hx, hi⟩))

/-! ## NOP, HALT, STOP, DI and EI -/

/-- Settles O35: each encoding is a row of the grid, and each meaning writes its control fields and the cycle count. -/
theorem controlInstructions : Obligations.ControlInstructions := by
  intro b s
  refine ⟨?nop, ?halt, ?stop, ?di, ?ei, rfl, rfl, rfl, rfl, rfl⟩
  all_goals exact encodedAs_of_encode_eq rfl rfl

end Sys2Proof.Machine
end

section
/-! PROOFS. The CPU step and the tick (spec/60_exceptions.md R400 to R430, R491): which interrupt a boundary takes, what a
step does at each kind of boundary, and how a run ends. -/

namespace Sys2Proof.Machine

/-! ## The pending interrupts (R404, R410) -/

/-- Bit n is set in both IE and IF. -/
abbrev State.requested (s : State) (n : Nat) : Bool := s.ieReg.getLsbD n && s.ifReg.getLsbD n

theorem State.pending_getLsbD (s : State) (n : Nat) : s.pending.getLsbD n = (s.requested n && decide (n < 5)) := by
  have hmask : (0x1F : Byte).getLsbD n = decide (n < 5) := by
    by_cases hn : n < 8
    · interval_cases n <;> rfl
    · rw [BitVec.getLsbD_of_ge _ _ (by omega), decide_eq_false (by omega)]
  rw [State.pending, BitVec.getLsbD_and, BitVec.getLsbD_and, hmask]

/-- The least bit of 0 to 4 that is set, tested upwards. -/
theorem lowestPending_eq_some_iff (p : Byte) (n : Nat) :
    lowestPending p = some n ↔ n < 5 ∧ p.getLsbD n = true ∧ ∀ m, m < n → p.getLsbD m = false := by
  have hlow : lowestPending p = (List.range 5).find? fun i => p.getLsbD i := by
    have hrange : List.range 5 = [0, 1, 2, 3, 4] := rfl
    rw [lowestPending, hrange]
    split_ifs <;> simp_all
  rw [hlow, List.find?_range_eq_some]
  simp [and_left_comm]

theorem interruptToTake_eq_some_iff (s : State) (n : Nat) :
    interruptToTake s = some n ↔
      s.cpu.ime = true ∧ n < 5 ∧ s.requested n = true ∧ ∀ m, m < n → s.requested m = false := by
  unfold interruptToTake
  split
  · next hime =>
    rw [lowestPending_eq_some_iff]
    simp only [State.pending_getLsbD, hime, true_and]
    refine and_congr_right fun hn => and_congr (by simp [hn]) (forall₂_congr fun m hm => ?_)
    simp [hm.trans hn]
  · next hime => simp [hime]

theorem pending_eq_zero_iff (s : State) : s.pending = 0 ↔ ∀ m, m < 5 → s.requested m = false := by
  constructor
  · intro h m hm
    have hbit : s.pending.getLsbD m = false := by rw [h, BitVec.ofNat_eq_ofNat, BitVec.getLsbD_zero]
    rw [State.pending_getLsbD, decide_eq_true hm, Bool.and_true] at hbit
    exact hbit
  · intro h
    refine BitVec.eq_of_getLsbD_eq fun m _ => ?_
    rw [State.pending_getLsbD, BitVec.ofNat_eq_ofNat, BitVec.getLsbD_zero]
    by_cases hm : m < 5
    · rw [h m hm, Bool.false_and]
    · rw [decide_eq_false hm, Bool.and_false]

/-- Settles O39: the test goes up from bit 0, and the mask 0x1F leaves the bits 0 to 4. -/
theorem noInterruptWithoutEnableAndRequest : Obligations.NoInterruptWithoutEnableAndRequest :=
  ⟨interruptToTake_eq_some_iff, pending_eq_zero_iff⟩

theorem interruptToTake_of_not_pending {s : State} (h : s.pending = 0) : interruptToTake s = none := by
  rw [interruptToTake, h]
  exact ite_self _

theorem interruptToTake_of_not_ime {s : State} (h : s.cpu.ime = false) : interruptToTake s = none := by
  rw [interruptToTake, h]
  rfl

/-! ## The step at a boundary that does not fetch -/

theorem step_of_cpuStep {s u : State} (hlive : Live s) (h : cpuStep s = .next u) : step s = .next (afterCpuStep u) := by
  rw [step, tick_live hlive, h, mapNext]

/-- Settles O38: the interrupt taken is the lowest requested one, and taking it is the two stores and the CPU's new
values. -/
theorem interruptIsTaken : Obligations.InterruptIsTaken := by
  intro s n hlive hrun hime hn hie hif hlowest
  have htake : interruptToTake s = some n :=
    (interruptToTake_eq_some_iff s n).mpr ⟨hime, hn, by simp [State.requested, hie, hif], hlowest⟩
  rw [step_of_cpuStep hlive (cpuStep_interrupt hrun htake), takeInterrupt_eq]
  rfl

/-- Settles O40: an idle step and a stopped one by the tests before the fetch; a HALT that wakes passes both of them, and
what follows does not look at the run latch. -/
theorem haltIdlesAndWakesStopIdles : Obligations.HaltIdlesAndWakesStopIdles := by
  refine ⟨fun s hlive h => ?idle, fun s hlive hrun hime hpending => ?wakes⟩
  case idle =>
    rcases h with ⟨hrun, hpending⟩ | hrun
    · exact step_of_cpuStep hlive (cpuStep_idle hrun (interruptToTake_of_not_pending hpending) hpending)
    · exact step_of_cpuStep hlive (cpuStep_stopped hrun)
  case wakes =>
    have hnone := interruptToTake_of_not_ime hime
    have hexec : Executes s := ⟨hlive, by simp [hrun], hnone, fun h => hpending h.2⟩
    have hexec' : Executes (s.setRun .running) := ⟨hlive, nofun, hnone, nofun⟩
    refine ⟨hexec, ?_⟩
    show step s = step (s.setRun .running)
    rw [step, step, tick_live hexec.1, tick_live hexec'.1, cpuStep_executes hexec, cpuStep_executes hexec']
    rfl

/-! ## The step at a boundary that fetches -/

theorem cpuStep_of_executes {s : State} (h : Executes s) :
    cpuStep s = mapNext (promoteIme s.cpu.imePending (fetchInstr s)) (exec (fetchInstr s) (atExec s)) :=
  cpuStep_executes h

theorem mapNext_mapNext (f g : State → State) (r : Result) : mapNext f (mapNext g r) = mapNext (fun t => f (g t)) r := by
  cases r <;> rfl

theorem atExec_eq (s : State) :
    atExec s = { s with cpu := { s.cpu with
      run := .running, imePending := false, pc := s.cpu.pc + BitVec.ofNat 16 (fetchLength s) } } := rfl

/-- Settles O5: what the three bytes decode to is the instruction fetched, and the bytes left over give its length. -/
theorem stepRunsTheDecodedInstruction : Obligations.StepRunsTheDecodedInstruction := by
  intro s i rest hexec hdecode
  obtain ⟨-, hi, hrest⟩ := decode_eq_ok_iff.mp hdecode
  have hfetch : fetchInstr s = i := hi
  have hlength : fetchLength s = 3 - rest.length := by
    have hbounds := instrLength_bounds (memRead s s.cpu.pc)
    have hcount : 3 - fetchLength s = rest.length := by
      rw [← hrest, List.length_drop]
      rfl
    rw [← hcount]
    exact (Nat.sub_sub_self hbounds.2).symm
  rw [step, tick_live hexec.1, cpuStep_of_executes hexec, hfetch, atExec_eq, hlength]
  rfl

theorem promoteIme_ime (b : Bool) (i : Instr) (s : State) :
    (promoteIme b i s).cpu.ime = if b ∧ i ≠ .di then true else s.cpu.ime := by
  unfold promoteIme
  split <;> rfl

theorem promoteIme_imePending (b : Bool) (i : Instr) (s : State) :
    (promoteIme b i s).cpu.imePending = s.cpu.imePending := by
  unfold promoteIme
  split <;> rfl

/-- ime_pending is taken out before the meaning runs, so it is 1 after the meaning of EI only. -/
theorem exec_imePending {i : Instr} {s t : State} (h : exec i s = .next t) (hs : s.cpu.imePending = false) :
    t.cpu.imePending = true ↔ i = .ei := by
  by_cases hei : i = .ei
  · subst hei
    cases h
    simp
  by_cases hdi : i = .di
  · subst hdi
    cases h
    simp
  obtain ⟨-, hkeeps, -⟩ := onlyControlInstructionsTouchControlState i s t h
  simp [hkeeps hdi hei, hs, hei]

theorem cpuStep_executes_cases {s t : State} (hexec : Executes s) (h : cpuStep s = .next t) :
    ∃ u, exec (fetchInstr s) (atExec s) = .next u ∧ t = promoteIme s.cpu.imePending (fetchInstr s) u := by
  obtain ⟨-, hrun, hnone, hidle⟩ := hexec
  rcases cpuStep_cases h with ⟨hstop | ⟨-, hhalt⟩, -⟩ | ⟨-, n, hn, -⟩ | ⟨-, -, hu⟩
  · exact absurd hstop hrun
  · exact absurd hhalt hidle
  · exact absurd (hnone.symm.trans hn) nofun
  · exact hu

/-- Settles O37: what the meaning does to IME and ime_pending, and the promotion after it. -/
theorem enableInterruptsIsDelayed : Obligations.EnableInterruptsIsDelayed := by
  intro s t hexec h
  obtain ⟨u, hu, rfl⟩ := cpuStep_executes_cases hexec h
  obtain ⟨hime, -, -⟩ := onlyControlInstructionsTouchControlState _ _ _ hu
  rw [promoteIme_ime, promoteIme_imePending]
  refine ⟨fun hp hdi => if_pos ⟨hp, hdi⟩, fun hp hdi hreti => ?_, fun hdi => ?_, exec_imePending hu rfl⟩
  · rw [if_neg (by simp [hp]), hime hdi hreti]
    rfl
  · rw [hdi] at hu ⊢
    cases hu
    simp

theorem ExecEffect.cycleCount {s t : State} {l : List Word} (h : ExecEffect s l t) : CycleCount t.cycles := by
  cases h with
  | registers c n hf hn => exact hn
  | store a v c n hf hn => exact hn
  | stores a v a' v' c n hf hn => exact hn

/-- Settles O6: the meaning answers, and every effect it can have keeps these parts and gives a cycle count. -/
theorem everyDefinedInstructionCompletes : Obligations.EveryDefinedInstructionCompletes := by
  intro i s hdefined
  obtain ⟨t, ht⟩ := exists_exec_eq_next hdefined s
  obtain ⟨hmin, hmax, hfour⟩ := (exec_effect ht).cycleCount
  obtain ⟨hcart, hfault, hinputs, hframes, hquit, hended, -⟩ := (exec_effect ht).keeps
  exact ⟨t, ht, hmin, hmax, hfour, hcart, hfault, hinputs, hframes, hquit, hended⟩

/-! ## The tick after the CPU step -/

theorem step_of_ended {s : State} (hfault : s.fault = none) (hended : s.ended = true) : step s = .refused .runEnded := by
  rw [step, tick, hfault, hended]
  rfl

/-- Settles O43: the rest of the tick is these parts in this order, and a run that is marked ended is refused. -/
theorem tickRunsCpuThenTimerThenPpu : Obligations.TickRunsCpuThenTimerThenPpu := by
  intro s u hlive h p q
  have hstep : step s = .next (quitTest q) := step_of_cpuStep hlive h
  refine ⟨fun hquit => ?_, fun hquit => ⟨?_, fun hfault => ?_⟩⟩
  · rw [hstep, quitTest, if_neg (by simp [hquit])]
  · rw [hstep, quitTest, if_pos hquit]
  · exact step_of_ended hfault rfl

/-! ## How a run ends -/

/-- The byte at PC is one of the eleven bytes R172 lists exactly when the instruction fetched is an undefined opcode. -/
theorem exists_fetchInstr_eq_illegal_iff (s : State) :
    (∃ u, fetchInstr s = .illegal u) ↔
      memRead s s.cpu.pc ∈ ([0xD3, 0xDB, 0xDD, 0xE3, 0xE4, 0xEB, 0xEC, 0xED, 0xF4, 0xFC, 0xFD] : List Byte) :=
  onlyTheElevenUndefinedOpcodesFault.1 _ _ _

theorem instrLength_toByte (u : UndefinedOpcode) : instrLength u.toByte = 1 := by
  cases u <;> rfl

theorem step_of_fault {s : State} {r : UnknownOpcode} (h : s.fault = some r) :
    step s = .fault (.unknownOpcode r.pc r.byte) := by
  rw [step, tick, h]

theorem stateAfter_of_fault {s : State} {pc : Word} {byte : Byte} (h : step s = .fault (.unknownOpcode pc byte)) :
    stateAfter s = { s with fault := some { pc := pc, byte := byte } } := by
  rw [step] at h
  rw [stateAfter, h]

/-- PC is one past the opcode byte when the meaning runs, so the fault names the byte's own address. -/
theorem step_undefined {s : State} {u : UndefinedOpcode} (hexec : Executes s) (hu : fetchInstr s = .illegal u) :
    step s = .fault (.unknownOpcode s.cpu.pc (memRead s s.cpu.pc)) := by
  have hbyte : memRead s s.cpu.pc = u.toByte := decode3_eq_illegal_iff.mp hu
  have hpc : (atExec s).cpu.pc - 1 = s.cpu.pc := by
    have hlength : fetchLength s = 1 := by rw [fetchLength, hbyte, instrLength_toByte]
    rw [atExec_eq, hlength]
    exact add_sub_cancel_right _ _
  rw [step, tick_live hexec.1, cpuStep_of_executes hexec, hu, hbyte, ← hpc]
  rfl

/-- Settles O41: the fault is recorded, and a tick looks at the record first. -/
theorem undefinedOpcodeEndsTheRun : Obligations.UndefinedOpcodeEndsTheRun := by
  intro s hexec hbyte t
  obtain ⟨u, hu⟩ := (exists_fetchInstr_eq_illegal_iff s).mpr hbyte
  have hstep := step_undefined hexec hu
  have hfault : t.fault = some { pc := s.cpu.pc, byte := memRead s s.cpu.pc } := rfl
  have hstep' := step_of_fault hfault
  exact ⟨hstep, stateAfter_of_fault hstep, hstep', stateAfter_of_fault hstep'⟩

/-- A CPU step answers a next state unless the boundary fetches an undefined opcode. -/
theorem exists_cpuStep_eq_next {s : State} (hlive : Live s) (h : ¬(Executes s ∧ ∃ u, fetchInstr s = .illegal u)) :
    ∃ t, cpuStep s = .next t := by
  by_cases hrun : s.cpu.run = .stopped
  · exact ⟨_, cpuStep_stopped hrun⟩
  cases hn : interruptToTake s with
  | some n => exact ⟨_, cpuStep_interrupt hrun hn⟩
  | none =>
    by_cases hidle : s.cpu.run = .halted ∧ s.pending = 0
    · exact ⟨_, cpuStep_idle hidle.1 hn hidle.2⟩
    · have hexec : Executes s := ⟨hlive, hrun, hn, hidle⟩
      obtain ⟨t, ht⟩ := exists_exec_eq_next (fun u hu => h ⟨hexec, u, hu⟩) (atExec s)
      exact ⟨_, by rw [cpuStep_of_executes hexec, ht, mapNext]⟩

/-- Settles O42: a live machine's step is that of its CPU, which answers or faults. -/
theorem stepStopsOnlyForTheSpecsReasons : Obligations.StepStopsOnlyForTheSpecsReasons := by
  refine ⟨fun s hlive h => ?answers, fun s r h => ?refused⟩
  case answers =>
    rw [← exists_fetchInstr_eq_illegal_iff] at h
    obtain ⟨t, ht⟩ := exists_cpuStep_eq_next hlive h
    exact ⟨_, step_of_cpuStep hlive ht⟩
  case refused =>
    cases hfault : s.fault with
    | some f => exact absurd ((step_of_fault hfault).symm.trans h) nofun
    | none =>
      cases hended : s.ended with
      | true =>
        rw [step_of_ended hfault hended] at h
        cases h
        exact ⟨rfl, rfl⟩
      | false =>
        have hlive : Live s := ⟨hfault, hended⟩
        by_cases hundefined : Executes s ∧ ∃ u, fetchInstr s = .illegal u
        · obtain ⟨hexec, u, hu⟩ := hundefined
          exact absurd ((step_undefined hexec hu).symm.trans h) nofun
        · obtain ⟨t, ht⟩ := exists_cpuStep_eq_next hlive hundefined
          exact absurd ((step_of_cpuStep hlive ht).symm.trans h) nofun

end Sys2Proof.Machine
end

section
/-! PROOFS. The timer (spec/60_exceptions.md R450 to R452): what a run of increments does to TIMA and IF, how many
increments an advance makes, and that advances add. -/

namespace Sys2Proof.Machine

/-! ## A run of increments (R451) -/

/-- The state with TIMA written, as a number. -/
def State.withTima (s : State) (n : Nat) : State := { s with timer := { s.timer with tima := BitVec.ofNat 8 n } }

theorem State.withTima_self (s : State) : s.withTima s.timer.tima.toNat = s := by
  simp [State.withTima]

theorem timaIncrement_withTima_of_lt (s : State) {n : Nat} (h : n < 255) :
    timaIncrement (s.withTima n) = s.withTima (n + 1) := by
  have hne : (s.withTima n).timer.tima ≠ 0xFF := fun heq => by
    have := congrArg BitVec.toNat heq
    simp [State.withTima] at this
    omega
  rw [timaIncrement, if_neg hne, State.withTima, State.withTima, BitVec.ofNat_add]
  rfl

theorem timaIncrement_withTima_255 (s : State) :
    timaIncrement (s.withTima 255) = { s with ifReg := s.ifReg ||| 4 }.withTima s.timer.tma.toNat := by
  have htima : (s.withTima 255).timer.tima = 0xFF := rfl
  rw [timaIncrement, if_pos htima, State.withTima, State.withTima, BitVec.ofNat_toNat, BitVec.setWidth_eq]
  rfl

theorem timaIncrements_add (m n : Nat) (s : State) : timaIncrements (m + n) s = timaIncrements n (timaIncrements m s) := by
  induction m generalizing s with
  | zero => rw [Nat.zero_add, timaIncrements]
  | succ m ih => rw [Nat.succ_add, timaIncrements, ih, timaIncrements]

/-- Increments that do not pass 255 add up. -/
theorem timaIncrements_withTima_of_le (s : State) {n k : Nat} (h : n + k ≤ 255) :
    timaIncrements k (s.withTima n) = s.withTima (n + k) := by
  induction k generalizing n with
  | zero => rfl
  | succ k ih =>
    rw [timaIncrements, timaIncrement_withTima_of_lt s (by omega), ih (by omega), Nat.add_right_comm, Nat.add_assoc]

/-- Once TIMER is requested, TIMA goes round from TMA to 255 and back to TMA. -/
theorem timaIncrements_withTima_reload {s : State} (hrequested : s.ifReg ||| 4 = s.ifReg) {j : Nat}
    (hj : s.timer.tma.toNat + j ≤ 255) (m : Nat) :
    timaIncrements m (s.withTima (s.timer.tma.toNat + j)) =
      s.withTima (s.timer.tma.toNat + (j + m) % (256 - s.timer.tma.toNat)) := by
  induction m generalizing j with
  | zero => rw [timaIncrements, Nat.add_zero, Nat.mod_eq_of_lt (by omega)]
  | succ m ih =>
    rw [timaIncrements]
    by_cases hlast : s.timer.tma.toNat + j = 255
    · have hround : j + (m + 1) = (0 + m) + (256 - s.timer.tma.toNat) := by omega
      rw [hlast, timaIncrement_withTima_255, hrequested, hround, Nat.add_mod_right]
      exact ih (j := 0) (by omega)
    · rw [timaIncrement_withTima_of_lt s (by omega), Nat.add_assoc, ih (by omega), Nat.add_right_comm j 1 m,
        Nat.add_assoc j m 1]

/-- The increments that fill TIMA up to 255, the one that overflows, and those after it. -/
theorem timaIncrements_of_lt {s : State} {k : Nat} (h : 255 - s.timer.tima.toNat < k) :
    timaIncrements k s = { s with ifReg := s.ifReg ||| 4 }.withTima
      (s.timer.tma.toNat + (k - (255 - s.timer.tima.toNat) - 1) % (256 - s.timer.tma.toNat)) := by
  have htima := s.timer.tima.isLt
  have htma := s.timer.tma.isLt
  have hfull : timaIncrements (255 - s.timer.tima.toNat) s = s.withTima 255 := by
    have hroom : s.timer.tima.toNat + (255 - s.timer.tima.toNat) = 255 := by omega
    have hrun := timaIncrements_withTima_of_le s hroom.le
    rwa [s.withTima_self, hroom] at hrun
  have hreload := timaIncrements_withTima_reload (s := { s with ifReg := s.ifReg ||| 4 }) (j := 0)
    (by rw [BitVec.or_assoc, BitVec.or_self]) (by show s.timer.tma.toNat + 0 ≤ 255; omega)
    (k - (255 - s.timer.tima.toNat) - 1)
  have hsplit : k = (255 - s.timer.tima.toNat) + ((k - (255 - s.timer.tima.toNat) - 1) + 1) := by omega
  conv_lhs => rw [hsplit, timaIncrements_add, hfull, timaIncrements, timaIncrement_withTima_255]
  rwa [Nat.add_zero, Nat.zero_add] at hreload

/-! ## An advance (R450) -/

/-- The state with the divider and the accumulator written. -/
def State.withCounters (s : State) (d : BitVec 16) (k : Nat) : State :=
  { s with timer := { s.timer with divider := d, tacc := k } }

/-- An increment does not look at the divider or the accumulator. -/
theorem timaIncrements_withCounters (n : Nat) (s : State) (d : BitVec 16) (k : Nat) :
    timaIncrements n (s.withCounters d k) = (timaIncrements n s).withCounters d k := by
  induction n generalizing s with
  | zero => rfl
  | succ n ih =>
    have hone : timaIncrement (s.withCounters d k) = (timaIncrement s).withCounters d k := by
      unfold timaIncrement
      split
      · next h => exact (if_pos h).symm ▸ rfl
      · next h => exact (if_neg h).symm ▸ rfl
    rw [timaIncrements, hone, ih, timaIncrements]

theorem timerPeriod_pos (tac : Byte) : 0 < timerPeriod tac := by
  unfold timerPeriod
  split <;> decide

theorem timerAdvance_of_disabled {s : State} (h : s.timer.tac.getLsbD 2 = false) (c : Nat) :
    timerAdvance c s = s.withCounters (s.timer.divider + BitVec.ofNat 16 c) s.timer.tacc :=
  if_neg (Bool.eq_false_iff.mp h)

/-- TIMA is incremented once for each period in the accumulator. -/
theorem timerAdvance_of_enabled {s : State} (h : s.timer.tac.getLsbD 2 = true) {c p k : Nat}
    (hp : timerPeriod s.timer.tac = p) (hk : (s.timer.tacc + c) / p = k) :
    timerAdvance c s =
      (timaIncrements k s).withCounters (s.timer.divider + BitVec.ofNat 16 c) ((s.timer.tacc + c) % p) := by
  rw [← timaIncrements_withCounters, ← hk, ← hp]
  exact if_pos h

theorem divider_add (d : BitVec 16) (c : Nat) : d + BitVec.ofNat 16 c = BitVec.ofNat 16 (d.toNat + c) := by
  rw [BitVec.ofNat_add, BitVec.ofNat_toNat, BitVec.setWidth_eq]

theorem timaIncrements_tac (n : Nat) (s : State) : (timaIncrements n s).timer.tac = s.timer.tac := by
  obtain ⟨v, f, h⟩ := timaIncrements_shape n s
  rw [h]

theorem div_add_mod_add_div {p : Nat} (hp : 0 < p) (x b : Nat) : x / p + (x % p + b) / p = (x + b) / p := by
  rw [← Nat.mul_add_div hp, ← Nat.add_assoc, Nat.div_add_mod]

/-- The cycles one advance leaves in the accumulator count towards the next. -/
theorem timerAdvance_timerAdvance (s : State) (a b : Nat) : timerAdvance b (timerAdvance a s) = timerAdvance (a + b) s := by
  have hdivider : s.timer.divider + BitVec.ofNat 16 a + BitVec.ofNat 16 b = s.timer.divider + BitVec.ofNat 16 (a + b) := by
    rw [BitVec.add_assoc, BitVec.ofNat_add]
  cases henabled : s.timer.tac.getLsbD 2 with
  | false =>
    rw [timerAdvance_of_disabled henabled, timerAdvance_of_disabled henabled, ← hdivider]
    exact timerAdvance_of_disabled (s := s.withCounters (s.timer.divider + BitVec.ofNat 16 a) s.timer.tacc) henabled b
  | true =>
    obtain ⟨p, hp⟩ : ∃ p, timerPeriod s.timer.tac = p := ⟨_, rfl⟩
    have htac := timaIncrements_tac ((s.timer.tacc + a) / p) s
    have hpos : 0 < p := hp ▸ timerPeriod_pos _
    have hfirst := timerAdvance_of_enabled (c := a) henabled hp rfl
    have hnext := timerAdvance_of_enabled (s := timerAdvance a s) (c := b) (p := p)
      (by rw [hfirst]; exact htac ▸ henabled) (by rw [hfirst]; exact htac ▸ hp) rfl
    calc timerAdvance b (timerAdvance a s)
        = (timaIncrements (((s.timer.tacc + a) % p + b) / p) (timaIncrements ((s.timer.tacc + a) / p) s)).withCounters
            (s.timer.divider + BitVec.ofNat 16 a + BitVec.ofNat 16 b) (((s.timer.tacc + a) % p + b) % p) := by
          rw [hnext, hfirst, timaIncrements_withCounters]
          rfl
      _ = (timaIncrements ((s.timer.tacc + (a + b)) / p) s).withCounters
            (s.timer.divider + BitVec.ofNat 16 (a + b)) ((s.timer.tacc + (a + b)) % p) := by
          rw [← timaIncrements_add, div_add_mod_add_div hpos, Nat.mod_add_mod, hdivider, Nat.add_assoc]
      _ = timerAdvance (a + b) s := (timerAdvance_of_enabled henabled hp rfl).symm

/-- Settles O50: the closed forms of the increments, in the period of TAC. -/
theorem timerAdvance_closedForm : Obligations.TimerAdvance := by
  refine ⟨?_, timerAdvance_timerAdvance⟩
  intro s c p k room div
  have hp : timerPeriod s.timer.tac = p := by
    simp only [timerPeriod, BitVec.toNat_setWidth]
    rfl
  refine ⟨fun h => ?disabled, fun h hk => ?noOverflow, fun h hk => ?overflow⟩
  case disabled =>
    rw [timerAdvance_of_disabled h, divider_add]
    rfl
  case noOverflow =>
    have hrun := timaIncrements_withTima_of_le s (n := s.timer.tima.toNat) (k := k) (by omega)
    rw [s.withTima_self] at hrun
    rw [timerAdvance_of_enabled h hp rfl, divider_add]
    exact congrArg (State.withCounters · _ _) hrun
  case overflow =>
    rw [timerAdvance_of_enabled h hp rfl, divider_add]
    exact congrArg (State.withCounters · _ _) (timaIncrements_of_lt hk)

end Sys2Proof.Machine
end

section
/-! PROOFS. The joypad (spec/60_exceptions.md R460, R461): the lines of the visible nibble, and when a button set requests
JOYPAD and ends STOP. -/

namespace Sys2Proof.Machine

/-! ## The visible nibble (R460) -/

theorem Joypad.line_eq_false_iff (j : Joypad) (direction action : Bool) :
    j.line direction action = false ↔ (j.sel4 = false ∧ direction = true) ∨ (j.sel5 = false ∧ action = true) := by
  simp only [Joypad.line, Bool.not_eq_false', Bool.or_eq_true, Bool.and_eq_true, Bool.not_eq_true']

theorem getLsbD_fourBits :
    ∀ b3 b2 b1 b0 : Bool,
      let v : BitVec 4 := BitVec.ofBool b3 ++ BitVec.ofBool b2 ++ BitVec.ofBool b1 ++ BitVec.ofBool b0
      v.getLsbD 0 = b0 ∧ v.getLsbD 1 = b1 ∧ v.getLsbD 2 = b2 ∧ v.getLsbD 3 = b3 := by
  decide

/-- Each line of the nibble is the one of its direction button and its action button. -/
theorem Joypad.nibble_getLsbD (j : Joypad) :
    j.nibble.getLsbD 0 = j.line j.pressed.right j.pressed.a ∧ j.nibble.getLsbD 1 = j.line j.pressed.left j.pressed.b ∧
    j.nibble.getLsbD 2 = j.line j.pressed.up j.pressed.select ∧
    j.nibble.getLsbD 3 = j.line j.pressed.down j.pressed.start := getLsbD_fourBits _ _ _ _

/-! ## A new button set (R461) -/

/-- The test of `SetButtons` finds a line that goes from 1 to 0. -/
theorem and_not_ne_zero_iff (old new : BitVec 4) :
    old &&& ~~~new ≠ 0 ↔ ∃ k, k < 4 ∧ old.getLsbD k = true ∧ new.getLsbD k = false := by
  have hbit {k : Nat} (hk : k < 4) : (old &&& ~~~new).getLsbD k = (old.getLsbD k && !new.getLsbD k) := by
    rw [BitVec.getLsbD_and, BitVec.getLsbD_not, decide_eq_true hk, Bool.true_and]
  rw [← not_iff_not, not_not]
  push Not
  constructor
  · intro hzero k hk hold
    have hfalls := hbit hk
    rw [hzero, hold, BitVec.ofNat_eq_ofNat, BitVec.getLsbD_zero] at hfalls
    simpa using hfalls
  · intro hkeeps
    refine BitVec.eq_of_getLsbD_eq fun k hk => ?_
    rw [hbit hk, BitVec.ofNat_eq_ofNat, BitVec.getLsbD_zero]
    cases hold : old.getLsbD k with
    | false => rfl
    | true => simp [hkeeps k hk hold]

theorem anyPressed_iff (b : Buttons) : anyPressed b = true ↔ b ≠ noButtons := by
  rw [← Bool.not_eq_false, not_iff_not]
  obtain ⟨right, left, up, down, a, b, select, start⟩ := b
  simp [anyPressed, noButtons, and_assoc]

theorem setButtons_eq (b : Buttons) (s : State) :
    setButtons b s = { s with
      joy := { s.joy with pressed := b }
      ifReg := if s.joy.nibble &&& ~~~Joypad.nibble { s.joy with pressed := b } ≠ 0 then s.ifReg ||| 0x10 else s.ifReg
      cpu := { s.cpu with run := if s.cpu.run = .stopped ∧ anyPressed b then .running else s.cpu.run } } := by
  unfold setButtons
  dsimp only
  split_ifs <;> rfl

/-- Settles O51: the lines of the nibble one by one, and the two tests of `SetButtons`. -/
theorem joypadNibbleAndRequests : Obligations.JoypadNibbleAndRequests := by
  refine ⟨fun j => ?nibble, ?setButtons⟩
  case nibble =>
    obtain ⟨h0, h1, h2, h3⟩ := j.nibble_getLsbD
    rw [h0, h1, h2, h3]
    exact ⟨j.line_eq_false_iff .., j.line_eq_false_iff .., j.line_eq_false_iff .., j.line_eq_false_iff ..⟩
  case setButtons =>
    intro s b new falls
    have hfalls : s.joy.nibble &&& ~~~new.nibble ≠ 0 ↔ falls := and_not_ne_zero_iff _ _
    refine ⟨_, _, setButtons_eq b s, fun h => if_pos (hfalls.mpr h), fun h => if_neg (mt hfalls.mp h), ?_, ?_⟩
    · rw [← anyPressed_iff]
      exact fun h => if_pos h
    · rw [← anyPressed_iff]
      exact fun h => if_neg h

end Sys2Proof.Machine
end

section
/-! PROOFS. The compositor (spec/60_exceptions.md R480 to R486): the pixels under the sprites, the row a line writes, and the
sprites in their order. VRAM is read by offsets from 0x8000, and shades are numbers. -/

namespace Sys2Proof.Machine

/-! ## Tiles and shades in numbers (R481, R486) -/

/-- Column `col` of the tile row whose first byte is at an offset of VRAM. -/
def tileRowPixel (s : State) (o col : Nat) : Nat :=
  2 * ((s.vram.read (o + 1)).toNat / 2 ^ (7 - col) % 2) + (s.vram.read o).toNat / 2 ^ (7 - col) % 2

theorem toNat_getLsbD (v : Byte) (k : Nat) : (v.getLsbD k).toNat = v.toNat / 2 ^ k % 2 := by
  rw [← BitVec.testBit_toNat, Nat.toNat_testBit]

theorem toNat_twoBits (b1 b0 : Bool) : (BitVec.ofBool b1 ++ BitVec.ofBool b0).toNat = 2 * b1.toNat + b0.toNat := by
  cases b1 <;> cases b0 <;> rfl

theorem vramAt_eq (s : State) {addr : Word} {o : Nat} (h : addr.toNat = 0x8000 + o) : vramAt s addr = s.vram.read o := by
  rw [vramAt, h, Nat.add_sub_cancel_left]

theorem tilePixel_toNat (s : State) {addr : Word} {o : Nat} (h : addr.toNat = 0x8000 + o) (ho : o < 0x7FFF) (col : Nat) :
    (tilePixel s addr col).toNat = tileRowPixel s o col := by
  have hnext : (addr + 1).toNat = 0x8000 + (o + 1) := by
    rw [BitVec.toNat_add, h]
    show (0x8000 + o + 1) % 65536 = 0x8000 + (o + 1)
    omega
  rw [tilePixel, toNat_twoBits, toNat_getLsbD, toNat_getLsbD, vramAt_eq s h, vramAt_eq s hnext, tileRowPixel]

theorem shadeOf_toNat (pal : Byte) (i : Shade) : (shadeOf pal i).toNat = pal.toNat / 2 ^ (2 * i.toNat) % 4 := by
  rw [shadeOf, BitVec.toNat_setWidth, BitVec.toNat_ushiftRight, Nat.shiftRight_eq_div_pow]

/-- Where the rows of a tile start in VRAM, unsigned from 0x8000 or signed from 0x9000 by LCDC bit 4. -/
def tileStart (s : State) (id : Nat) : Nat :=
  if s.ppu.lcdc.getLsbD 4 then id * 16 else if id < 128 then 0x1000 + id * 16 else id * 16

theorem tileStart_le (s : State) (id : Byte) : tileStart s id.toNat ≤ 0x1000 + 127 * 16 := by
  have hid := id.isLt
  unfold tileStart
  split_ifs <;> omega

theorem toNat_signExtend_byte (v : Byte) :
    (v.signExtend 16).toNat = if v.toNat < 128 then v.toNat else v.toNat + 0xFF00 := by
  have hv := v.isLt
  rw [BitVec.toNat_signExtend, BitVec.toNat_setWidth, BitVec.msb_eq_decide]
  by_cases h : v.toNat < 128
  · rw [if_pos h, if_neg (by simp; omega)]
    omega
  · rw [if_neg h, if_pos (by simp; omega)]
    omega

/-- Row `r` of the tile with number `tile` after `base`. -/
theorem rowAddr_toNat (base tile : Word) (r : Nat) :
    (base + tile * 16 + BitVec.ofNat 16 (2 * r)).toNat = (base.toNat + tile.toNat * 16 + 2 * r) % 65536 := by
  simp [BitVec.toNat_add, BitVec.toNat_mul]

theorem tileRowAddr_toNat (s : State) (id : Byte) {r : Nat} (hr : r < 8) :
    (tileRowAddr s id r).toNat = 0x8000 + (tileStart s id.toNat + 2 * r) := by
  have hid := id.isLt
  unfold tileRowAddr tileStart
  split
  · simp only [rowAddr_toNat, BitVec.toNat_setWidth, BitVec.reduceToNat]
    omega
  · simp only [rowAddr_toNat, toNat_signExtend_byte, BitVec.reduceToNat]
    split_ifs <;> omega

/-- The pixel at (px, py) of the tile map at an offset of VRAM. -/
def mapPixel (s : State) (o px py : Nat) : Nat :=
  tileRowPixel s (tileStart s (s.vram.read (o + 32 * (py / 8) + px / 8)).toNat + 2 * (py % 8)) (px % 8)

theorem tileIdAt_eq (s : State) {base : Word} {o row col : Nat} (hbase : base.toNat = 0x8000 + o) (ho : o ≤ 0x1C00)
    (hrow : row < 32) (hcol : col < 32) : tileIdAt s base row col = s.vram.read (o + 32 * row + col) := by
  refine vramAt_eq s ?_
  rw [BitVec.toNat_add, BitVec.toNat_ofNat, hbase]
  omega

theorem mapPixel_eq (s : State) {base : Word} {o px py : Nat} (hbase : base.toNat = 0x8000 + o) (ho : o ≤ 0x1C00)
    (hpx : px < 256) (hpy : py < 256) :
    (tilePixel s (tileRowAddr s (tileIdAt s base (py / 8) (px / 8)) (py % 8)) (px % 8)).toNat = mapPixel s o px py := by
  have hr : py % 8 < 8 := Nat.mod_lt _ (by decide)
  have hstart := tileStart_le s (tileIdAt s base (py / 8) (px / 8))
  rw [tilePixel_toNat s (tileRowAddr_toNat s _ hr) (by omega), tileIdAt_eq s hbase ho (by omega) (by omega), mapPixel]

/-- The two tile maps, by the bit of LCDC that selects one. -/
theorem tileMap_toNat (b : Bool) :
    (if b then 0x9C00 else 0x9800 : Word).toNat = 0x8000 + (if b then 0x1C00 else 0x1800) ∧
      (if b then 0x1C00 else 0x1800) ≤ 0x1C00 := by
  cases b <;> decide

/-! ## The index and the shade under the sprites (R480, R482, R483) -/

theorem backgroundIndex_toNat (s : State) (x : Nat) :
    (backgroundIndex s x).toNat = mapPixel s (if s.ppu.lcdc.getLsbD 3 then 0x1C00 else 0x1800)
      ((s.ppu.scx.toNat + x) % 256) ((s.ppu.scy.toNat + s.ppu.ly.toNat) % 256) := by
  obtain ⟨hbase, ho⟩ := tileMap_toNat (s.ppu.lcdc.getLsbD 3)
  exact mapPixel_eq s hbase ho (Nat.mod_lt _ (by decide)) (Nat.mod_lt _ (by decide))

theorem windowIndex_toNat (s : State) {x : Nat} (hx : x < 160) :
    (windowIndex s x).toNat = mapPixel s (if s.ppu.lcdc.getLsbD 6 then 0x1C00 else 0x1800)
      (x + 7 - s.ppu.wx.toNat) s.ppu.winLine.toNat := by
  obtain ⟨hbase, ho⟩ := tileMap_toNat (s.ppu.lcdc.getLsbD 6)
  exact mapPixel_eq s hbase ho (by omega) s.ppu.winLine.isLt

/-! ## The row a line writes (R480) -/

theorem renderLine_row {s : State} (hfb : FramebufferWf s.ppu) (hly : s.ppu.ly.toNat < 144) :
    (renderLine s).ppu.fb.getD s.ppu.ly.toNat [] = lineShades s := by
  have hlen : s.ppu.ly.toNat < s.ppu.fb.length := by rw [hfb.rows]; exact hly
  simp [renderLine, List.getD_eq_getElem?_getD, hlen]

theorem lineShades_getD (s : State) {x : Nat} (hx : x < 160) : (lineShades s).getD x 0 = pixelShade s x := by
  simp [lineShades, List.getD_eq_getElem?_getD, hx]

theorem renderLine_otherRow (s : State) {y : Nat} (hy : y ≠ s.ppu.ly.toNat) :
    (renderLine s).ppu.fb.getD y [] = s.ppu.fb.getD y [] := by
  simp [renderLine, List.getD_eq_getElem?_getD, List.getElem?_set_ne hy.symm]

/-- Settles O54: the index by the three layers, its shade through BGP, and the row the line writes. -/
theorem backgroundAndWindowPixels : Obligations.BackgroundAndWindowPixels := by
  intro s x hfb hly hx bit tile windowOn windowHere windowMap backgroundMap index
  have hwindow : windowAt s x = windowHere := rfl
  have hindex : (bgIndex s x).toNat = index := by
    unfold bgIndex
    rw [hwindow, apply_ite BitVec.toNat, apply_ite BitVec.toNat, windowIndex_toNat s hx, backgroundIndex_toNat]
    rfl
  refine ⟨hindex, ?shade, fun h => if_neg (Bool.eq_false_iff.mp h), ?cell, _, _, rfl,
    fun y hy => renderLine_otherRow s hy, ?counted⟩
  case shade =>
    rw [bgShade, hwindow, ← hindex, ← shadeOf_toNat]
    split <;> rfl
  case cell => rw [renderLine_row hfb hly, lineShades_getD s hx]
  case counted =>
    show (if windowOn then s.ppu.winLine + 1 else s.ppu.winLine) = s.ppu.winLine + if windowOn then 1 else 0
    cases windowOn with
    | true => rfl
    | false => exact (BitVec.add_zero _).symm

/-! ## The order of the sprites (R484) -/

/-- Entry `i` comes no later than entry `j` by X. -/
abbrev NoLaterByX (s : State) (i j : Nat) : Prop := (oamByte s i 1).toNat ≤ (oamByte s j 1).toNat

theorem insertByX_eq_orderedInsert (s : State) (i : Nat) (js : List Nat) :
    insertByX s i js = js.orderedInsert (NoLaterByX s) i := by
  induction js with
  | nil => rfl
  | cons j js ih => rw [insertByX, ih]; rfl

theorem sortedSprites_eq_insertionSort (s : State) :
    sortedSprites s = (selectedSprites s).insertionSort (NoLaterByX s) := by
  have h : insertByX s = List.orderedInsert (NoLaterByX s) := by
    funext i js
    exact insertByX_eq_orderedInsert s i js
  rw [sortedSprites, h]
  rfl

/-- Entry `i` has the higher priority: the smaller X, and of two with one X the lower index. -/
def DrawnBefore (s : State) (i j : Nat) : Prop :=
  (oamByte s i 1).toNat < (oamByte s j 1).toNat ∨ ((oamByte s i 1).toNat = (oamByte s j 1).toNat ∧ i < j)

theorem orderedInsert_drawnBefore {s : State} {i : Nat} {js : List Nat} (hjs : js.Pairwise (DrawnBefore s))
    (hi : ∀ j ∈ js, i < j) : (js.orderedInsert (NoLaterByX s) i).Pairwise (DrawnBefore s) := by
  induction js with
  | nil => exact List.pairwise_singleton _ _
  | cons j js ih =>
    obtain ⟨hj, htail⟩ := List.pairwise_cons.mp hjs
    rw [List.orderedInsert_cons]
    split
    · next hle =>
      refine List.pairwise_cons.mpr ⟨fun k hk => ?_, hjs⟩
      have hik := hi k hk
      rcases List.mem_cons.mp hk with rfl | hk
      · unfold DrawnBefore
        omega
      · have hjk := hj k hk
        unfold DrawnBefore at hjk ⊢
        omega
    · next hgt =>
      refine List.pairwise_cons.mpr ⟨fun k hk => ?_, ih htail fun k hk => hi k (List.mem_cons_of_mem j hk)⟩
      rcases (List.mem_orderedInsert _).mp hk with rfl | hk
      · exact .inl (Nat.lt_of_not_le hgt)
      · exact hj k hk

theorem insertionSort_drawnBefore (s : State) {l : List Nat} (hl : l.Pairwise (· < ·)) :
    (l.insertionSort (NoLaterByX s)).Pairwise (DrawnBefore s) := by
  induction l with
  | nil => exact List.Pairwise.nil
  | cons i l ih =>
    obtain ⟨hi, htail⟩ := List.pairwise_cons.mp hl
    exact orderedInsert_drawnBefore (ih htail) fun j hj => hi j ((List.mem_insertionSort _).mp hj)

theorem selectedSprites_increasing (s : State) : (selectedSprites s).Pairwise (· < ·) :=
  (List.pairwise_lt_range.filter _).sublist (List.take_sublist _ _)

/-! ## What one entry draws (R484, R485) -/

/-- The colour index of entry `i` at column `x`. -/
def spriteIndex (s : State) (x i : Nat) : Shade :=
  tilePixel s (spriteRowAddr s i)
    (if (oamByte s i 3).getLsbD 5 then 7 - (x + 8 - (oamByte s i 1).toNat) else x + 8 - (oamByte s i 1).toNat)

/-- Entry `i` is drawn at column `x`. -/
abbrev SpriteDrawn (s : State) (x i : Nat) : Prop :=
  (oamByte s i 1).toNat ≤ x + 8 ∧ x < (oamByte s i 1).toNat ∧ spriteIndex s x i ≠ 0 ∧
    ((oamByte s i 3).getLsbD 7 = false ∨ bgIndex s x = 0)

/-- The shade of entry `i` where it is drawn. -/
def spriteShade (s : State) (x i : Nat) : Shade :=
  shadeOf (if (oamByte s i 3).getLsbD 4 then s.ppu.obp1 else s.ppu.obp0) (spriteIndex s x i)

theorem drawSprite_eq (s : State) (x i : Nat) (below : Shade) :
    drawSprite s x i below = if SpriteDrawn s x i then spriteShade s x i else below := by
  have hdraw : drawSprite s x i below =
      if (oamByte s i 1).toNat ≤ x + 8 ∧ x < (oamByte s i 1).toNat then
        if spriteIndex s x i = 0 then below
        else if (oamByte s i 3).getLsbD 7 = true ∧ bgIndex s x ≠ 0 then below else spriteShade s x i
      else below := rfl
  rw [hdraw]
  by_cases hdrawn : SpriteDrawn s x i
  · rw [if_pos hdrawn]
    obtain ⟨hleft, hright, hindex, hfront⟩ := hdrawn
    have hnotBehind : ¬((oamByte s i 3).getLsbD 7 = true ∧ bgIndex s x ≠ 0) := fun ⟨hbehind, hbg⟩ =>
      hfront.elim (fun h => absurd hbehind (Bool.eq_false_iff.mp h)) hbg
    rw [if_pos ⟨hleft, hright⟩, if_neg hindex, if_neg hnotBehind]
  · rw [if_neg hdrawn]
    split
    · next hcovers =>
      split
      · rfl
      · next hindex =>
        refine if_pos ?_
        by_contra hnotBehind
        rw [not_and_or, Bool.not_eq_true, not_not] at hnotBehind
        exact hdrawn ⟨hcovers.1, hcovers.2, hindex, hnotBehind⟩
    · rfl

/-- Drawing a list from its last entry to its first leaves the shade of the first entry that is drawn. -/
theorem foldr_drawSprite (s : State) (x : Nat) (below : Shade) (l : List Nat) :
    l.foldr (drawSprite s x) below = (l.find? fun i => decide (SpriteDrawn s x i)).elim below (spriteShade s x) := by
  induction l with
  | nil => rfl
  | cons i l ih =>
    rw [List.foldr_cons, drawSprite_eq, List.find?_cons]
    by_cases h : SpriteDrawn s x i
    · rw [if_pos h, decide_eq_true h]
      rfl
    · rw [if_neg h, decide_eq_false h, ih]

theorem and_FE_toNat : ∀ v : Byte, (v &&& 0xFE).toNat = v.toNat / 2 * 2 := by decide +kernel

/-- The row of entry `i` on the line, counted from the other end where bit 6 of its last byte is set. -/
def spriteRow (s : State) (i : Nat) : Nat :=
  if (oamByte s i 3).getLsbD 6 then spriteHeight s - 1 - (s.ppu.ly.toNat + 16 - (oamByte s i 0).toNat)
  else s.ppu.ly.toNat + 16 - (oamByte s i 0).toNat

theorem spriteRow_le (s : State) (i : Nat) : spriteRow s i ≤ 271 := by
  have hly := s.ppu.ly.isLt
  have hheight : spriteHeight s ≤ 16 := by
    unfold spriteHeight
    split <;> decide
  unfold spriteRow
  split_ifs <;> omega

/-- Where the row of entry `i` starts in VRAM; bit 0 of the tile is ignored for sprites of 16 rows. -/
def spriteRowStart (s : State) (i : Nat) : Nat :=
  (if spriteHeight s = 16 then (oamByte s i 2).toNat / 2 * 2 else (oamByte s i 2).toNat) * 16 + 2 * spriteRow s i

theorem spriteRowStart_lt (s : State) (i : Nat) : spriteRowStart s i < 0x7FFF := by
  have hrow := spriteRow_le s i
  have htile := (oamByte s i 2).isLt
  unfold spriteRowStart
  split_ifs <;> omega

theorem spriteRowAddr_toNat (s : State) (i : Nat) : (spriteRowAddr s i).toNat = 0x8000 + spriteRowStart s i := by
  have hlt := spriteRowStart_lt s i
  have htile : (if spriteHeight s = 16 then oamByte s i 2 &&& 0xFE else oamByte s i 2).toNat =
      if spriteHeight s = 16 then (oamByte s i 2).toNat / 2 * 2 else (oamByte s i 2).toNat := by
    rw [apply_ite BitVec.toNat, and_FE_toNat]
  have haddr : spriteRowAddr s i =
      0x8000 + (if spriteHeight s = 16 then oamByte s i 2 &&& 0xFE else oamByte s i 2).setWidth 16 * 16 +
        BitVec.ofNat 16 (2 * spriteRow s i) := rfl
  rw [haddr, rowAddr_toNat, BitVec.toNat_setWidth, htile]
  unfold spriteRowStart at hlt ⊢
  simp only [BitVec.reduceToNat]
  omega

theorem spriteIndex_toNat (s : State) (x i : Nat) :
    (spriteIndex s x i).toNat = tileRowPixel s (spriteRowStart s i)
      (if (oamByte s i 3).getLsbD 5 then 7 - (x + 8 - (oamByte s i 1).toNat) else x + 8 - (oamByte s i 1).toNat) :=
  tilePixel_toNat s (spriteRowAddr_toNat s i) (spriteRowStart_lt s i) _

theorem getLsbD_eq_true_iff (v : Byte) (k : Nat) : v.getLsbD k = true ↔ v.toNat / 2 ^ k % 2 = 1 := by
  rw [← toNat_getLsbD]
  cases v.getLsbD k <;> decide

theorem getLsbD_eq_false_iff (v : Byte) (k : Nat) : v.getLsbD k = false ↔ v.toNat / 2 ^ k % 2 = 0 := by
  rw [← toNat_getLsbD]
  cases v.getLsbD k <;> decide

/-- Settles O55: the list is the selected entries sorted by insertion, and drawing it backwards leaves its first drawn
entry. -/
theorem spriteSelectionAndPriority : Obligations.SpriteSelectionAndPriority := by
  intro s x oam height onLine before bit index drawn
  have hselected : selectedSprites s = ((List.range 40).filter onLine).take 10 := by
    have honLine : spriteOnLine s = onLine := funext fun i => (Bool.decide_and _ _).symm
    rw [selectedSprites, honLine]
  have hbit (i n : Nat) : (oamByte s i 3).getLsbD n = true ↔ bit (oam i 3) n = 1 := getLsbD_eq_true_iff _ n
  have hindex (i : Nat) : (spriteIndex s x i).toNat = index i := by
    rw [spriteIndex_toNat, if_congr (hbit i 5) rfl rfl, tileRowPixel, spriteRowStart, spriteRow,
      if_congr (hbit i 6) rfl rfl]
    rfl
  have hdrawn : (fun i => decide (SpriteDrawn s x i)) = drawn := by
    funext i
    have hzero : spriteIndex s x i = 0 ↔ index i = 0 := by
      rw [← hindex]
      exact BitVec.toNat_inj.symm
    exact decide_eq_decide.mpr (and_congr_right fun _ => and_congr_right fun _ =>
      and_congr (not_congr hzero) (or_congr (getLsbD_eq_false_iff _ 7) Iff.rfl))
  rw [sortedSprites_eq_insertionSort]
  refine ⟨hselected ▸ List.perm_insertionSort _ _, insertionSort_drawnBefore s (selectedSprites_increasing s),
    fun hon => ?_⟩
  rw [← sortedSprites_eq_insertionSort, pixelShade, if_pos hon, foldr_drawSprite, hdrawn]
  cases (sortedSprites s).find? drawn with
  | none => rfl
  | some i =>
    rw [Option.elim_some, spriteShade, shadeOf_toNat, hindex, if_congr (hbit i 4) rfl rfl]

end Sys2Proof.Machine
end

section
/-! PROOFS. The PPU's state machine (spec/60_exceptions.md R470 to R475): one tick by the position it finds, and the position
round a frame. -/

namespace Sys2Proof.Machine

/-! ## A line's picture does not depend on the dot -/

theorem lineShades_advanceDot (s : State) : lineShades (advanceDot s) = lineShades s := by
  have hsorted : sortedSprites (advanceDot s) = sortedSprites s := by
    simp only [sortedSprites_eq_insertionSort]
    rfl
  have hdraw : drawSprite (advanceDot s) = drawSprite s := rfl
  have hshade : bgShade (advanceDot s) = bgShade s := rfl
  have hlcdc : (advanceDot s).ppu.lcdc = s.ppu.lcdc := rfl
  have hpixel : pixelShade (advanceDot s) = pixelShade s := by
    funext x
    rw [pixelShade, hsorted, hdraw, hshade, hlcdc, pixelShade]
  rw [lineShades, hpixel, lineShades]

theorem renderLine_advanceDot (s : State) : renderLine (advanceDot s) = advanceDot (renderLine s) := by
  rw [renderLine, lineShades_advanceDot]
  rfl

/-! ## What a tick's requests do to IF -/

theorem requestStatIf_eq (b : Bool) (s : State) :
    requestStatIf b s = { s with ifReg := s.ifReg ||| if b then 2 else 0 } := by
  cases b with
  | false => simp [requestStatIf]
  | true => rfl

theorem or_request_or_request (v : Byte) (a b : Bool) :
    (v ||| if a then 2 else 0) ||| (if b then 2 else 0) = v ||| if a || b then 2 else 0 := by
  cases a <;> cases b <;> simp [BitVec.or_assoc]

theorem lycCompare_eq (s : State) :
    lycCompare s = { s with
      ifReg := s.ifReg |||
        if decide (s.ppu.ly.toNat = s.ppu.lyc.toNat) && !s.ppu.coincidence && s.ppu.statHi.getLsbD 3 then 2 else 0
      ppu := { s.ppu with coincidence := decide (s.ppu.ly.toNat = s.ppu.lyc.toNat) } } := by
  simp only [lycCompare, requestStatIf_eq, BitVec.toNat_inj]

/-! ## The parts of a tick, by the position they find (R472) -/

theorem enterDrawing_of_not {s : State} (h : ¬(s.ppu.ly.toNat < 144 ∧ s.ppu.dot = 79)) :
    enterDrawing (advanceDot s) = advanceDot s := if_neg fun h' => h ⟨h'.1, Nat.succ.inj h'.2⟩

theorem beforeEndOfLine_drawing {s : State} (h : s.ppu.ly.toNat < 144 ∧ s.ppu.dot = 79) :
    enterHBlank (enterDrawing (advanceDot s)) = { s with ppu := { s.ppu with dot := 80, mode := .drawing } } := by
  simp [enterHBlank, enterDrawing, advanceDot, h]

theorem beforeEndOfLine_hblank {s : State} (h : s.ppu.ly.toNat < 144 ∧ s.ppu.dot = 251) :
    enterHBlank (enterDrawing (advanceDot s)) =
      { s with
        ifReg := s.ifReg ||| if s.ppu.statHi.getLsbD 0 then 2 else 0
        ppu := { (renderLine s).ppu with dot := 252, mode := .hblank } } := by
  obtain ⟨hline, hdot⟩ := h
  have hpos : (advanceDot s).ppu.ly.toNat < 144 ∧ (advanceDot s).ppu.dot = 252 := ⟨hline, congrArg (· + 1) hdot⟩
  rw [enterDrawing_of_not (by simp [hdot]), enterHBlank, if_pos hpos, requestStatIf_eq, renderLine_advanceDot]
  simp [advanceDot, renderLine, hdot]

theorem beforeEndOfLine_other {s : State} (hdrawing : ¬(s.ppu.ly.toNat < 144 ∧ s.ppu.dot = 79))
    (hhblank : ¬(s.ppu.ly.toNat < 144 ∧ s.ppu.dot = 251)) :
    enterHBlank (enterDrawing (advanceDot s)) = { s with ppu := { s.ppu with dot := s.ppu.dot + 1 } } := by
  rw [enterDrawing_of_not hdrawing]
  exact if_neg fun h => hhblank ⟨h.1, Nat.succ.inj h.2⟩

/-- The line after a line, modulo the 154 lines of a frame. -/
abbrev lineAfter (ly : Byte) : Nat := (ly.toNat + 1) % 154

/-- The next line fits LY. -/
theorem lineAfter_mod (ly : Byte) : lineAfter ly % 256 = lineAfter ly :=
  Nat.mod_eq_of_lt ((Nat.mod_lt _ (by decide)).trans (by decide : 154 < 256))

theorem nextLine_eq {s : State} (h : s.ppu.ly.toNat < 154) :
    nextLine s = { s with ppu := { s.ppu with
      dot := 0
      ly := BitVec.ofNat 8 (lineAfter s.ppu.ly)
      winLine := if lineAfter s.ppu.ly = 0 then 0 else s.ppu.winLine } } := by
  unfold nextLine lineAfter
  split
  · next hlast => simp [hlast]
  · next hnot =>
    have hmod : (s.ppu.ly.toNat + 1) % 154 = s.ppu.ly.toNat + 1 := Nat.mod_eq_of_lt (by omega)
    have hly : BitVec.ofNat 8 (s.ppu.ly.toNat + 1) = s.ppu.ly + 1 := by simp [BitVec.ofNat_add]
    simp [hmod, hly]

/-- The requests, the mode and the frame flag at the start of the next line. -/
theorem endOfLine_eq {s : State} (h : s.ppu.ly.toNat < 154) (hdot : s.ppu.dot = 456) :
    endOfLine s = { s with
      ifReg := s.ifReg ||| (if lineAfter s.ppu.ly = 144 then 1 else 0) |||
        if (decide (lineAfter s.ppu.ly = 144) && s.ppu.statHi.getLsbD 1) ||
            (decide (lineAfter s.ppu.ly < 144) && s.ppu.statHi.getLsbD 2) then 2 else 0
      ppu := { s.ppu with
        dot := 0
        ly := BitVec.ofNat 8 (lineAfter s.ppu.ly)
        winLine := if lineAfter s.ppu.ly = 0 then 0 else s.ppu.winLine
        mode := if lineAfter s.ppu.ly = 144 then .vblank else if lineAfter s.ppu.ly < 144 then .oamScan else s.ppu.mode
        frameReady := s.ppu.frameReady || decide (lineAfter s.ppu.ly = 144) } } := by
  have hly := lineAfter_mod s.ppu.ly
  rw [endOfLine, if_pos hdot, nextLine_eq h]
  generalize lineAfter s.ppu.ly = n at hly
  rcases Nat.lt_trichotomy n 144 with hn | rfl | hn
  · simp [hly, hn, hn.ne, enterOamScan, requestStatIf_eq]
  · simp [enterVBlank, requestStatIf_eq]
  · simp [hly, hn.ne', hn.not_gt]

theorem endOfLine_of_ne {s : State} (h : s.ppu.dot ≠ 456) : endOfLine s = s := if_neg h

/-! ## A whole tick -/

theorem ppuTick_on {s : State} (h : s.ppu.lcdc.getLsbD 7 = true) :
    ppuTick s = lycCompare (endOfLine (enterHBlank (enterDrawing (advanceDot s)))) := if_pos h

/-- Settles O52: the two dots of a visible line at which its mode changes, the last dot of any line, and every other dot,
at which only the dot and the coincidence move. -/
theorem ppuTickByPosition : Obligations.PpuTickByPosition := by
  refine ⟨fun s hoff => if_neg (by rw [lcdOn, hoff]; decide), fun s hon hscan => ?_⟩
  have hline := hscan.line
  rw [ppuTick_on hon]
  by_cases hdrawing : s.ppu.ly.toNat < 144 ∧ s.ppu.dot = 79
  · rw [beforeEndOfLine_drawing hdrawing, endOfLine_of_ne (by simp), lycCompare_eq]
    simp [hdrawing]
  by_cases hhblank : s.ppu.ly.toNat < 144 ∧ s.ppu.dot = 251
  · rw [beforeEndOfLine_hblank hhblank, endOfLine_of_ne (by simp), lycCompare_eq]
    simp only [or_request_or_request]
    simp [hhblank, renderLine]
  rw [beforeEndOfLine_other hdrawing hhblank]
  by_cases hlast : s.ppu.dot = 455
  · have hmod := lineAfter_mod s.ppu.ly
    rw [endOfLine_eq (by exact hline) (by simp [hlast]), lycCompare_eq]
    simp only [or_request_or_request]
    simp [hlast, hmod]
  · rw [endOfLine_of_ne (by simpa using hlast), lycCompare_eq]
    simp [hlast, hdrawing, hhblank]

/-! ## The position round a frame -/

theorem ppuTick_lcdc (s : State) : (ppuTick s).ppu.lcdc = s.ppu.lcdc := by
  obtain ⟨_, _, _, _, _, _, _, _, h⟩ := ppuTick_change s
  rw [h]

theorem framePosition_lt {p : Ppu} (h : ScanWf p) : framePosition p < 70224 := by
  have hline := h.line
  have hdot := h.dot
  unfold framePosition
  omega

/-- One tick moves the position on by one: within the line, to the next line, or from the end of a frame to its start. -/
theorem framePosition_ppuTick {s : State} (hon : s.ppu.lcdc.getLsbD 7 = true) (hscan : ScanWf s.ppu) :
    framePosition (ppuTick s).ppu = (framePosition s.ppu + 1) % 70224 := by
  have hline := hscan.line
  have hdot := hscan.dot
  rw [ppuTickByPosition.2 s hon hscan]
  unfold framePosition
  by_cases hlast : s.ppu.dot = 455
  · simp only [hlast, decide_true, if_true, BitVec.toNat_ofNat]
    omega
  · simp only [hlast, decide_false, Bool.false_eq_true, if_false, BitVec.toNat_ofNat]
    omega

theorem ppuAdvance_position {s : State} (hon : s.ppu.lcdc.getLsbD 7 = true) (hscan : ScanWf s.ppu) (c : Nat) :
    framePosition (ppuAdvance c s).ppu = (framePosition s.ppu + c) % 70224 := by
  induction c generalizing s with
  | zero => rw [ppuAdvance, Nat.add_zero, Nat.mod_eq_of_lt (framePosition_lt hscan)]
  | succ c ih =>
    rw [ppuAdvance, ih (by rw [ppuTick_lcdc, hon]) (ppuTick_scan hscan), framePosition_ppuTick hon hscan, Nat.mod_add_mod,
      Nat.add_assoc, Nat.add_comm 1 c]

/-- A position on a line of a frame gives the line and the dot. -/
theorem ly_dot_of_framePosition {p : Ppu} (h : ScanWf p) :
    p.ly.toNat = framePosition p / 456 ∧ p.dot = framePosition p % 456 := by
  have hdot := h.dot
  unfold framePosition
  omega

/-- Settles O53: by induction on the ticks, and the line and the dot are read off the position. -/
theorem linesTake456AndFrames70224 : Obligations.LinesTake456AndFrames70224 := by
  intro s hon hscan
  have hposition := ppuAdvance_position hon hscan
  have hwf (c : Nat) := ppuAdvance_scan c hscan
  obtain ⟨hly, hdot⟩ := ly_dot_of_framePosition hscan
  obtain ⟨hly456, hdot456⟩ := ly_dot_of_framePosition (hwf 456)
  obtain ⟨hlyFrame, hdotFrame⟩ := ly_dot_of_framePosition (hwf 70224)
  rw [hposition] at hly456 hdot456 hlyFrame hdotFrame
  have hlt := framePosition_lt hscan
  refine ⟨fun c => ⟨hwf c, hposition c⟩, ?_, ?_, BitVec.eq_of_toNat_eq ?_, ?_⟩ <;> omega

end Sys2Proof.Machine
end
